-- ==== Sys2Proof/Word.lean ====
section
/-! DEFINITION. The word types of the link and the saturating sums of the counters.

Bit vectors hold what the spec treats as bits: bytes on the link, identifiers, the custody fold, operands as they
are clocked in. Counts, instants and durations are natural numbers whose stated ceilings are kept by the saturating
sums below, and temperatures are integers in units of 0.1 °C (00_scope.md, section 7). -/

namespace Sys2Proof

/-- One byte of a frame, a payload or an image. -/
abbrev Byte := BitVec 8

/-- A two-byte field of the link. -/
abbrev Word16 := BitVec 16

/-- A four-byte field of the link; a consignment ID. -/
abbrev Word32 := BitVec 32

/-- The ceiling of every 32-bit count, sum and instant: 4,294,967,295. -/
abbrev maxU32 : Nat := 4294967295

/-- The ceiling of a 16-bit count: 65535. -/
abbrev maxU16 : Nat := 65535

/-- Saturation at a ceiling (00_scope.md, section 7: "it stays at its largest value once that value is reached"). -/
def satAdd (ceiling a b : Nat) : Nat := min (a + b) ceiling

/-- A sum that saturates at 4,294,967,295. -/
def satAdd32 (a b : Nat) : Nat := satAdd maxU32 a b

/-- A temperature clamped to a range: a value outside is replaced by the nearer end. -/
def clampInt (lo hi x : Int) : Int := if x < lo then lo else if hi < x then hi else x

end Sys2Proof
end

