-- ==== Sys2Proof/Config.lean ====
section
/-! DEFINITION. What the CK48 fixes once: its identity and the size of its table, and the one
free value of the model. -/

namespace Sys2Proof.Config

/-- Part code C48Ah (R165). -/
def partCode : Word16 := 0xC48A

/-- Revision 01h (R165). -/
def revision : Byte := 0x01

/-- Number of record slots (R70, R75); the tables of `State` have this length by their type. -/
def slotCount : Nat := 48

/-- FREE VALUE. Whether the n-th low pulse of RESETN shorter than 10 µs is taken as a pin reset. R17: "A low pulse
shorter than 10 µs may or may not be taken as a pin reset." No body, so no proof can lean on an answer
(assumption log entry 3). -/
opaque shortPulseTaken (n : Nat) : Bool

/-- FREE VALUE. What SDO did over the rest of a transaction that the link ignores because CSN was low when it became
live: the bytes shifted out, or none for high impedance. R177 says that the rest is ignored and does not say what SDO
does meanwhile (assumption log entries 3 and 15). -/
opaque ignoredSdo (n : Nat) : Option (List Byte)

end Sys2Proof.Config
end

