-- ==== Sys2Proof/Syntax.lean ====
section
/-! DEFINITION. The commands and events of the CK48: one constructor of `Instr` per row of spec/opcode_table.json.

Two groups: events of the part and its pins (power, time base, probe gate, zones, doors, defrost, hand-off
deadlines, link), and host commands, each a whole command transaction taken at CSN rise. A host command carries the
shape of its frame (`Frame`, what R178 checks) and its operands as the widths of 11.4 give them. -/

namespace Sys2Proof

/-- The shape of a command transaction at CSN rise, as R178 checks it: how many whole bytes were received (the code
included), the payload length byte, and how many bits were clocked beyond the last whole byte. A transaction of one
byte has no length byte and carries 0 here. -/
structure Frame where
  whole : Nat
  len : Byte
  stray : Nat
  deriving DecidableEq, Repr

/-- The frame of a command sent with exactly `n` payload bytes and the length byte that says so. -/
def Frame.exact (n : Nat) : Frame := ⟨2 + n, BitVec.ofNat 8 n, 0⟩

/-- What the pins and the crystal show at a cold start (R14 to R16, R46, R53, R177). A door or DEFROST level is true
when high. -/
structure ColdInputs where
  vsup : Bool
  vbak : Bool
  zsel1 : Bool
  zsel0 : Bool
  crystalFound : Bool
  doors : Vector Bool 4
  defrost : Bool
  resetLow : Bool
  csnLow : Bool
  deriving DecidableEq, Repr

/-- What the pins show at a main return (R12, R17, R53, R61, R177). -/
structure ReturnInputs where
  doors : Vector Bool 4
  defrost : Bool
  resetLow : Bool
  csnLow : Bool
  deriving DecidableEq, Repr

/-- A start or restart of an alert line's pulse: the line, and the start's number among that line's starts (R173;
assumption log entry 8). PULSE_END names by it which start it ends. -/
structure PulseStart where
  line : Nat
  number : Nat
  deriving DecidableEq, Repr

/-- One command or event of the block, one constructor per row of the table. Compartments are numbered 1..4, zones
1..5, probes 0..7, slots 0..47 and alert lines 0..1. -/
inductive Instr where
  -- power and reset
  | coldStart (inp : ColdInputs)
  | vbakLoss
  | vbakRestore
  | vsupLoss
  | vsupReturn (inp : ReturnInputs)
  | resetnLow
  | pinReset (lowMicros : Nat) (csnLow : Bool)
  -- time base
  | retryWindowEnd (edgesFound : Bool)
  | crystalStop
  | secondEvent (rcPeriods : Nat)
  | scan
  | probeRisingEdge (probe : Nat)
  | gateClose
  | tick
  | tickPassVisit
  -- zones, doors, defrost, hand-off deadlines, alert pulses
  | holdExpiry (zone : Nat)
  | doorInputChange (compartment : Nat) (level : Bool)
  | doorOpen (compartment : Nat)
  | doorClose (compartment : Nat)
  | dwellExpiry (compartment : Nat)
  | defrostInputChange (level : Bool)
  | defrostRise
  | defrostFall
  | allowanceExpiry (compartment : Nat)
  | deadlineLapse (slot : Nat)
  | pulseEnd (start : PulseStart)
  -- link
  | frameDiscarded (whole : Nat)
  | shortTransaction (bits : Nat)
  | responseRead (bytes : Nat)
  | responseReady
  | unknownCommand (code : Byte) (fr : Frame)
  -- queries
  | status (fr : Frame)
  | attention (fr : Frame)
  | find (fr : Frame) (id : Word32)
  | view (fr : Frame) (handle : Byte)
  | survey (fr : Frame) (field cond : Byte) (value : Word32) (start : Byte)
  | zone (fr : Frame) (z : Byte)
  | door (fr : Frame) (c : Byte)
  | probe (fr : Frame) (p : Byte)
  | profile (fr : Frame) (i : Byte)
  -- settings
  | fixTick (fr : Frame) (interval : Byte)
  | setProbe (fr : Frame) (p z : Byte) (zeroCount gain : Word16)
  | setZone (fr : Frame) (z lag : Byte) (hold : Word16) (capacity interlock : Byte) (dwell : Word16) (raise : Byte) (defrostMax spacing : Word16)
  | setDefrostMask (fr : Frame) (mask : Byte)
  | setHandover (fr : Frame) (window : Word16)
  | setAlert (fr : Frame) (line cond mode : Byte)
  | ackAlert (fr : Frame) (line : Byte)
  | defineProfile (fr : Frame) (i : Byte) (upper lower : Word16) (upperBudget lowerBudget blindAllowance : Word32)
  | clearProfile (fr : Frame) (i : Byte)
  -- custody
  | load (fr : Frame) (id : Word32) (prof compartment : Byte)
  | shift (fr : Frame) (handle : Byte) (id : Word32) (expected dest : Byte)
  | stage (fr : Frame) (handle : Byte) (id : Word32) (expected : Byte)
  | restow (fr : Frame) (handle : Byte) (id : Word32) (compartment : Byte)
  | deliver (fr : Frame) (handle : Byte) (id : Word32)
  | writeOff (fr : Frame) (handle : Byte) (id : Word32)
  | release (fr : Frame) (handle : Byte) (id : Word32)
  -- hand-off
  | handOff (fr : Frame) (handle : Byte) (id : Word32)
  | exportPart (fr : Frame) (handle : Byte) (id : Word32) (part : Byte)
  | confirm (fr : Frame) (handle : Byte) (id : Word32)
  | recallRecord (fr : Frame) (handle : Byte) (id : Word32)
  | adoptPart (fr : Frame) (part : Byte) (bytes : Vector Byte 16)
  | adoptCommit (fr : Frame)
  | adoptAbort (fr : Frame)
  deriving DecidableEq, Repr

end Sys2Proof
end

