-- ==== Sys2Proof/Machine/State.lean ====
section
/-! DEFINITION. The state of the CK48, block by block as the block diagram of 00_scope.md gives it, as plain data;
the reasons a step can stop; the state right after reset.

Presence that a rule ties to a state is carried by the type: a record's last charge, frozen-at second, deadline and
close kind are arguments of the custody state that has them (R70), first-break of BROKEN, the hold deadline of HELD
(R38), the allowance's expiry of a granted allowance (R54). -/

namespace Sys2Proof.Machine

/-! ### Time base (chapter 1) -/

/-- Power states (R10). `off` is the part without any supply, holding no state (R10, R14). -/
inductive Power where
  | off
  | run
  | backup
  deriving DecidableEq, Repr

/-- The time base. `secondOnCrystal`: the second in progress has been timed from the crystal since its start (R1,
R3). `retryOpen`: a crystal retry window is open (R3). `vbak`: the backup supply is present (R14). `resetLow`: RESETN
is held low in RUN (R17, R177). `scanDue`, `tickDue`: the second event that began this second is also a scan, a tick
(R6, R7), not yet taken (assumption log entry 5). -/
structure TimeBase where
  power : Power
  vbak : Bool
  resetLow : Bool
  trip : Nat
  trim : Nat
  degraded : Bool
  secondOnCrystal : Bool
  retryOpen : Bool
  lastDegraded : Option Nat
  interval : Option Nat
  backupEntry : Option Nat
  powerReturn : Option Nat
  outage : Nat
  presentCount : Nat
  scanDue : Bool
  tickDue : Bool
  deriving DecidableEq, Repr

/-! ### Probe scanner (chapter 2) -/

inductive ProbeState where
  | off
  | filling
  | active
  | faulted
  deriving DecidableEq, Repr

/-- One probe (R19). `edges`: its edge count in the open gate, absent when it does not count in it (R21, R22). -/
structure Probe where
  zone : Nat
  zeroCount : Nat
  gain : Int
  state : ProbeState
  rejects : Nat
  window : List Int
  lastCount : Nat
  lastTemp : Int
  clamped : Bool
  edges : Option Nat
  deriving DecidableEq, Repr

/-- The values of R19 at cold start. -/
def Probe.cold : Probe := ⟨0, 5000, 256, .off, 0, [], 0, 0, false, none⟩

structure Scanner where
  gateOpen : Bool
  probes : Vector Probe 8
  deriving DecidableEq, Repr

/-! ### Zone monitor (chapter 3) -/

/-- Sensing states; HELD has a hold deadline (R38, R43). -/
inductive Sensing where
  | sensed
  | held (deadline : Nat)
  | blind
  deriving DecidableEq, Repr

/-- What every zone 1..5 holds (R38). -/
structure Zone where
  lag : Nat
  hold : Nat
  sensing : Sensing
  airMax : Int
  airMin : Int
  warm : Int
  cold : Int
  deriving DecidableEq, Repr

/-- The values of R38 at cold start. -/
def Zone.initial : Zone := ⟨4, 60, .blind, 0, 0, 0, 0⟩

/-- A door opening (R38, R47): when it began, how long it lasted (absent while open), whether DOOR reported it. -/
structure Opening where
  openAt : Nat
  duration : Option Nat
  reported : Bool
  deriving DecidableEq, Repr

/-- A granted defrost allowance (R54): the raise in force and its expiry second. -/
structure Allowance where
  raise : Nat
  expiry : Nat
  deriving DecidableEq, Repr

/-- A defrost episode in progress (R38, R54); no allowance once refused or expired. -/
structure Episode where
  start : Nat
  allowance : Option Allowance
  deriving DecidableEq, Repr

/-- What a compartment 1..4 holds beside its zone (R38). `doorLevel` and `debouncing`: the level last seen at DOORn
and whether its 50 ms are running (R46). `inMask`: the compartment's part of the defrost mask (R52). -/
structure Compartment where
  capacity : Nat
  interlock : Bool
  dwellLimit : Nat
  raise : Nat
  defrostMax : Nat
  spacing : Nat
  doorLevel : Bool
  debouncing : Bool
  doorOpen : Bool
  opening : Option Opening
  openings : Nat
  overrun : Bool
  dwellDeadline : Option Nat
  dwellFlag : Bool
  inMask : Bool
  episode : Option Episode
  previousEnd : Option Nat
  deriving DecidableEq, Repr

/-- The values of R38 at cold start, with the door closed. -/
def Compartment.initial : Compartment :=
  ⟨12, false, 0, 30, 1800, 3600, false, false, false, none, 0, false, none, false, false, none, none⟩

/-- The zone monitor: zones 1..5, compartments 1..4, and the DEFROST line: the level last seen, whether its 50 ms are
running, and the debounced defrost state (R53). -/
structure ZoneMonitor where
  zones : Vector Zone 5
  comps : Vector Compartment 4
  defrostLevel : Bool
  defrostDebouncing : Bool
  defrostActive : Bool
  deriving DecidableEq, Repr

/-! ### Profile table (chapter 4) -/

/-- One entry of the profile table (R62). -/
structure Profile where
  defined : Bool
  upper : Int
  lower : Int
  upperBudget : Nat
  lowerBudget : Nat
  blindAllowance : Nat
  useCount : Nat
  deriving DecidableEq, Repr

def Profile.undefined : Profile := ⟨false, 0, 0, 0, 0, 0, 0⟩

/-! ### Consignment table (chapter 5) -/

inductive CloseKind where
  | delivered
  | handedOver
  | writtenOff
  deriving DecidableEq, Repr

/-- The state of a record that is not FREE, with the fields R70 gives it in that state alone. -/
inductive Custody where
  | loaded (compartment lastCharge : Nat)
  | staged (lastCharge : Nat)
  | handover (frozenAt deadline : Nat)
  | closed (kind : CloseKind)
  deriving DecidableEq, Repr

/-- The status of a record; first-break is present in BROKEN alone (R70). -/
inductive Status where
  | intact
  | atRisk
  | unproven
  | broken (firstBreak : Nat)
  deriving DecidableEq, Repr

/-- The five marks (R71). -/
structure Marks where
  timing : Bool
  adopted : Bool
  aboveNow : Bool
  belowNow : Bool
  lapsed : Bool
  deriving DecidableEq, Repr

/-- A record that is not FREE (R70). -/
structure Record where
  id : Word32
  custody : Custody
  profile : Nat
  status : Status
  marks : Marks
  upperExposure : Nat
  lowerExposure : Nat
  blindSeconds : Nat
  custodySeconds : Nat
  peakExcess : Nat
  handOffs : Nat
  fold : Word16
  deriving DecidableEq, Repr

/-- The consignment table: 48 slots (FREE is `none`), the ID index, four member lists, the stage list (R70, R78,
R80). The FREE and CLOSED counts of R102 are counted from the slots. -/
structure Table where
  slots : Vector (Option Record) 48
  index : List Nat
  members : Vector (List Nat) 4
  stage : List Nat
  deriving DecidableEq, Repr

/-! ### Accrual engine (chapter 6) -/

/-- The pass in flight: its tick second and the next slot it will visit (R116). -/
structure Pass where
  tick : Nat
  next : Nat
  deriving DecidableEq, Repr

/-! ### Hand-off unit (chapter 8) -/

/-- The hand-off window and the adoption buffer; the part counter is the number of parts held (R145). -/
structure HandoffUnit where
  window : Nat
  parts : List (Vector Byte 16)
  deriving DecidableEq, Repr

/-! ### Alert unit (chapter 10) -/

/-- The ten attention kinds (R167). -/
inductive Kind where
  | coldStart
  | powerReturn
  | recordBreak
  | unproven
  | probeFault
  | timebaseLost
  | handoverLapsed
  | doorDwell
  | doorOverrun
  | defrostOverrun
  deriving DecidableEq, Repr

/-- The eight alert conditions (R171). -/
inductive Condition where
  | newBreak
  | atRiskPresent
  | blindZone
  | doorDwell
  | timebaseDegraded
  | probeFault
  | handoverPending
  | tableNearFull
  deriving DecidableEq, Repr

inductive Mode where
  | follow
  | latch
  | pulse
  deriving DecidableEq, Repr

/-- One alert line. `pulseEnd`: present while a pulse runs, the end it awaits, 1 s after the change that started or
restarted it, named by that start's number (R173; assumption log entry 8). `pulses`: the MODEL's own field, how many pulses
of this line have started or restarted so far; the next start takes it as its number. -/
structure Line where
  condition : Condition
  mode : Mode
  reference : Bool
  latch : Bool
  pulseEnd : Option Nat
  pulses : Nat
  deriving DecidableEq, Repr

/-- A line's initial values (R15, R176), with the count of its pulse starts so far (assumption log entry 8). -/
def Line.initial (pulses : Nat) : Line := ⟨.atRiskPresent, .follow, false, false, none, pulses⟩

/-- The attention set, kept in the order of R167's bits without duplicates, and the two lines. -/
structure AlertUnit where
  attention : List Kind
  lines : Vector Line 2
  deriving DecidableEq, Repr

/-! ### Link interface (chapter 11) -/

/-- Result codes (R184). -/
inductive ResultCode where
  | ok
  | pending
  | noResponse
  | framing
  | unknownCommand
  | range
  | notReady
  | alreadyFixed
  | noProfile
  | inUse
  | duplicate
  | tableFull
  | zoneFull
  | notFound
  | staleHandle
  | wrongState
  | mismatch
  | doorClosed
  | late
  | sequence
  | badCheck
  | badImage
  deriving DecidableEq, Repr

/-- What a command answers: its result code and payload. -/
structure Reply where
  code : ResultCode
  payload : List Byte
  deriving DecidableEq, Repr

/-- A response in the holding buffer (R180); its length is that of the payload. -/
structure Response where
  code : ResultCode
  flags : Byte
  payload : List Byte
  deriving DecidableEq, Repr

/-- The link interface. `receive`: the bytes of a transaction in progress. `executing`: the answer of the command in
execution, whose response is not ready yet; the pending flag is set exactly while it is present (R180). `waitRise`:
the link waits for CSN to rise (R177). `sdo`: what SDO did over the last transaction since the link became live, the
whole bytes it shifted out; none while it has stayed at high impedance (R177; assumption log entry 15). -/
structure Link where
  receive : List Byte
  response : Option Response
  executing : Option Reply
  overrun : Bool
  waitRise : Bool
  sdo : Option (List Byte)
  deriving DecidableEq, Repr

/-- The link after cold start, pin reset and main return (R182), SDO at high impedance. -/
def Link.initial : Link := ⟨[], none, none, false, false, none⟩

/-! ### The whole part -/

/-- The state of the part. `freeCount` is the MODEL's own field: it numbers the free values taken so far (log entry
3). `pending` is the queue of commands and events that wait, first in, first out. -/
structure State where
  tb : TimeBase
  ps : Scanner
  zm : ZoneMonitor
  pt : Vector Profile 8
  ct : Table
  ae : Option Pass
  hu : HandoffUnit
  au : AlertUnit
  li : Link
  freeCount : Nat
  pending : List Instr
  deriving DecidableEq, Repr

/-- No command of the CK48 stops the part: every command is carried out or answered with a refusal code, and an event
whose condition does not hold is not taken (log entry 4). No fault has a constructor, so a step cannot fault. -/
inductive Fault where
  deriving DecidableEq, Repr

/-- Reasons for a refusal by the model. -/
inductive Refusal where
  /-- Raised by `exec` for a row of the table that has no meaning yet; safe. Every row has one. -/
  | notModelled (mnemonic : String)
  deriving DecidableEq, Repr

/-- The part right after a cold start with both supplies present, straps ZSEL1..0 = 11, crystal edges found, every
door closed, DEFROST inactive, RESETN and CSN high (R15, R16, R19, R38, R62, R74, R116, R145, R176, R182). The pin
levels are the model's choice (log entry 1). -/
def State.reset : State where
  tb :=
    { power := .run, vbak := true, resetLow := false, trip := 0, trim := 1048576, degraded := false,
      secondOnCrystal := true, retryOpen := false, lastDegraded := none, interval := none, backupEntry := none,
      powerReturn := none, outage := 0, presentCount := 4, scanDue := false, tickDue := false }
  ps := { gateOpen := false, probes := Vector.replicate 8 Probe.cold }
  zm :=
    { zones := Vector.replicate 5 Zone.initial, comps := Vector.replicate 4 Compartment.initial,
      defrostLevel := false, defrostDebouncing := false, defrostActive := false }
  pt := Vector.replicate 8 Profile.undefined
  ct := { slots := Vector.replicate 48 none, index := [], members := Vector.replicate 4 [], stage := [] }
  ae := none
  hu := { window := 300, parts := [] }
  au := { attention := [.coldStart], lines := Vector.replicate 2 (Line.initial 0) }
  li := Link.initial
  freeCount := 0
  pending := []

end Sys2Proof.Machine
end

