-- ==== Sys2Proof/Machine/Bytes.lean ====
section
/-! DEFINITION. Byte order of the link: most significant byte first (00_scope.md, section 7; R179), signed fields in
two's complement. -/

namespace Sys2Proof.Machine

/-- One byte holding a small number. -/
def byte (n : Nat) : Byte := BitVec.ofNat 8 n

/-- A flag as a bit of a byte. -/
def bit (position : Nat) (b : Bool) : Byte := if b then (1 : Byte) <<< position else 0

/-- The two bytes of a 16-bit field. -/
def bytes16 (w : Word16) : List Byte := [w.extractLsb' 8 8, w.extractLsb' 0 8]

/-- The four bytes of a 32-bit field. -/
def bytes32 (w : Word32) : List Byte :=
  [w.extractLsb' 24 8, w.extractLsb' 16 8, w.extractLsb' 8 8, w.extractLsb' 0 8]

/-- A count in two bytes, a count in four bytes, a signed value in two and in four bytes. -/
def nat16 (n : Nat) : List Byte := bytes16 (BitVec.ofNat 16 n)
def nat32 (n : Nat) : List Byte := bytes32 (BitVec.ofNat 32 n)
def int16 (x : Int) : List Byte := bytes16 (BitVec.ofInt 16 x)
def int32 (x : Int) : List Byte := bytes32 (BitVec.ofInt 32 x)

/-- The byte at a position of a payload or image, and the fields that begin there; bytes beyond the end read 0. -/
def byteAt (bs : List Byte) (i : Nat) : Byte := bs.getD i 0
def word16At (bs : List Byte) (i : Nat) : Word16 := byteAt bs i ++ byteAt bs (i + 1)
def word32At (bs : List Byte) (i : Nat) : Word32 :=
  byteAt bs i ++ byteAt bs (i + 1) ++ byteAt bs (i + 2) ++ byteAt bs (i + 3)

end Sys2Proof.Machine
end

