-- ==== Sys2Proof/Decode.lean ====
section
/-! DEFINITION. Command codes and payload lengths (11.4), the sorting of a transaction into the row it is (R177,
R178), the bytes of a host command, and `decodeTableWord`.

No row of spec/opcode_table.json has bits, so no word spells a command by the table: `decodeTableWord` answers none.
What the link clocks in is decoded by `decodeTransaction`. -/

namespace Sys2Proof

open Sys2Proof.Machine

/-- The command code of a host command (11.4); the code it carries for an unlisted one; none for an event. -/
def Instr.code? : Instr → Option Byte
  | .status _ => some 0x01
  | .attention _ => some 0x02
  | .find _ _ => some 0x03
  | .view _ _ => some 0x04
  | .survey _ _ _ _ _ => some 0x05
  | .zone _ _ => some 0x06
  | .door _ _ => some 0x07
  | .probe _ _ => some 0x08
  | .profile _ _ => some 0x09
  | .fixTick _ _ => some 0x10
  | .setProbe _ _ _ _ _ => some 0x11
  | .setZone _ _ _ _ _ _ _ _ _ _ => some 0x12
  | .setDefrostMask _ _ => some 0x13
  | .setHandover _ _ => some 0x14
  | .setAlert _ _ _ _ => some 0x15
  | .ackAlert _ _ => some 0x16
  | .defineProfile _ _ _ _ _ _ _ => some 0x17
  | .clearProfile _ _ => some 0x18
  | .load _ _ _ _ => some 0x20
  | .shift _ _ _ _ _ => some 0x21
  | .stage _ _ _ _ => some 0x22
  | .restow _ _ _ _ => some 0x23
  | .deliver _ _ _ => some 0x24
  | .writeOff _ _ _ => some 0x25
  | .release _ _ _ => some 0x26
  | .handOff _ _ _ => some 0x30
  | .exportPart _ _ _ _ => some 0x31
  | .confirm _ _ _ => some 0x32
  | .recallRecord _ _ _ => some 0x33
  | .adoptPart _ _ _ => some 0x34
  | .adoptCommit _ => some 0x35
  | .adoptAbort _ => some 0x36
  | .unknownCommand c _ => some c
  | .coldStart _ => none
  | .vbakLoss => none
  | .vbakRestore => none
  | .vsupLoss => none
  | .vsupReturn _ => none
  | .resetnLow => none
  | .pinReset _ _ => none
  | .retryWindowEnd _ => none
  | .crystalStop => none
  | .secondEvent _ => none
  | .scan => none
  | .probeRisingEdge _ => none
  | .gateClose => none
  | .tick => none
  | .tickPassVisit => none
  | .holdExpiry _ => none
  | .doorInputChange _ _ => none
  | .doorOpen _ => none
  | .doorClose _ => none
  | .dwellExpiry _ => none
  | .defrostInputChange _ => none
  | .defrostRise => none
  | .defrostFall => none
  | .allowanceExpiry _ => none
  | .deadlineLapse _ => none
  | .pulseEnd _ => none
  | .frameDiscarded _ => none
  | .shortTransaction _ => none
  | .responseRead _ => none
  | .responseReady => none

/-- The frame a host command arrived in; none for an event. -/
def Instr.frame? : Instr → Option Frame
  | .status fr => some fr
  | .attention fr => some fr
  | .find fr _ => some fr
  | .view fr _ => some fr
  | .survey fr _ _ _ _ => some fr
  | .zone fr _ => some fr
  | .door fr _ => some fr
  | .probe fr _ => some fr
  | .profile fr _ => some fr
  | .fixTick fr _ => some fr
  | .setProbe fr _ _ _ _ => some fr
  | .setZone fr _ _ _ _ _ _ _ _ _ => some fr
  | .setDefrostMask fr _ => some fr
  | .setHandover fr _ => some fr
  | .setAlert fr _ _ _ => some fr
  | .ackAlert fr _ => some fr
  | .defineProfile fr _ _ _ _ _ _ => some fr
  | .clearProfile fr _ => some fr
  | .load fr _ _ _ => some fr
  | .shift fr _ _ _ _ => some fr
  | .stage fr _ _ _ => some fr
  | .restow fr _ _ _ => some fr
  | .deliver fr _ _ => some fr
  | .writeOff fr _ _ => some fr
  | .release fr _ _ => some fr
  | .handOff fr _ _ => some fr
  | .exportPart fr _ _ _ => some fr
  | .confirm fr _ _ => some fr
  | .recallRecord fr _ _ => some fr
  | .adoptPart fr _ _ => some fr
  | .adoptCommit fr => some fr
  | .adoptAbort fr => some fr
  | .unknownCommand _ fr => some fr
  | .coldStart _ => none
  | .vbakLoss => none
  | .vbakRestore => none
  | .vsupLoss => none
  | .vsupReturn _ => none
  | .resetnLow => none
  | .pinReset _ _ => none
  | .retryWindowEnd _ => none
  | .crystalStop => none
  | .secondEvent _ => none
  | .scan => none
  | .probeRisingEdge _ => none
  | .gateClose => none
  | .tick => none
  | .tickPassVisit => none
  | .holdExpiry _ => none
  | .doorInputChange _ _ => none
  | .doorOpen _ => none
  | .doorClose _ => none
  | .dwellExpiry _ => none
  | .defrostInputChange _ => none
  | .defrostRise => none
  | .defrostFall => none
  | .allowanceExpiry _ => none
  | .deadlineLapse _ => none
  | .pulseEnd _ => none
  | .frameDiscarded _ => none
  | .shortTransaction _ => none
  | .responseRead _ => none
  | .responseReady => none

/-- The exact payload length that 11.4 lists for a command code; none for a code it does not list. -/
def payloadLength? (code : Byte) : Option Nat :=
  match code.toNat with
  | 0x01 => some 0
  | 0x02 => some 0
  | 0x03 => some 4
  | 0x04 => some 1
  | 0x05 => some 7
  | 0x06 => some 1
  | 0x07 => some 1
  | 0x08 => some 1
  | 0x09 => some 1
  | 0x10 => some 1
  | 0x11 => some 6
  | 0x12 => some 13
  | 0x13 => some 1
  | 0x14 => some 2
  | 0x15 => some 3
  | 0x16 => some 1
  | 0x17 => some 17
  | 0x18 => some 1
  | 0x20 => some 6
  | 0x21 => some 7
  | 0x22 => some 6
  | 0x23 => some 6
  | 0x24 => some 5
  | 0x25 => some 5
  | 0x26 => some 5
  | 0x30 => some 5
  | 0x31 => some 6
  | 0x32 => some 5
  | 0x33 => some 5
  | 0x34 => some 17
  | 0x35 => some 0
  | 0x36 => some 0
  | _ => none

/-- The first 16 bytes from a position of a payload (R186). -/
def partBytes (p : List Byte) (at0 : Nat) : Vector Byte 16 := Vector.ofFn fun i => byteAt p (at0 + i)

/-- A command transaction read by its code: the fields in the order and width of 11.4 (R179). A field that a frame is
too short to hold reads 0; such a frame is refused unread (R178). -/
def decodeCommand (code : Byte) (fr : Frame) (p : List Byte) : Instr :=
  match code.toNat with
  | 0x01 => .status fr
  | 0x02 => .attention fr
  | 0x03 => .find fr (word32At p 0)
  | 0x04 => .view fr (byteAt p 0)
  | 0x05 => .survey fr (byteAt p 0) (byteAt p 1) (word32At p 2) (byteAt p 6)
  | 0x06 => .zone fr (byteAt p 0)
  | 0x07 => .door fr (byteAt p 0)
  | 0x08 => .probe fr (byteAt p 0)
  | 0x09 => .profile fr (byteAt p 0)
  | 0x10 => .fixTick fr (byteAt p 0)
  | 0x11 => .setProbe fr (byteAt p 0) (byteAt p 1) (word16At p 2) (word16At p 4)
  | 0x12 => .setZone fr (byteAt p 0) (byteAt p 1) (word16At p 2) (byteAt p 4) (byteAt p 5) (word16At p 6) (byteAt p 8) (word16At p 9) (word16At p 11)
  | 0x13 => .setDefrostMask fr (byteAt p 0)
  | 0x14 => .setHandover fr (word16At p 0)
  | 0x15 => .setAlert fr (byteAt p 0) (byteAt p 1) (byteAt p 2)
  | 0x16 => .ackAlert fr (byteAt p 0)
  | 0x17 => .defineProfile fr (byteAt p 0) (word16At p 1) (word16At p 3) (word32At p 5) (word32At p 9) (word32At p 13)
  | 0x18 => .clearProfile fr (byteAt p 0)
  | 0x20 => .load fr (word32At p 0) (byteAt p 4) (byteAt p 5)
  | 0x21 => .shift fr (byteAt p 0) (word32At p 1) (byteAt p 5) (byteAt p 6)
  | 0x22 => .stage fr (byteAt p 0) (word32At p 1) (byteAt p 5)
  | 0x23 => .restow fr (byteAt p 0) (word32At p 1) (byteAt p 5)
  | 0x24 => .deliver fr (byteAt p 0) (word32At p 1)
  | 0x25 => .writeOff fr (byteAt p 0) (word32At p 1)
  | 0x26 => .release fr (byteAt p 0) (word32At p 1)
  | 0x30 => .handOff fr (byteAt p 0) (word32At p 1)
  | 0x31 => .exportPart fr (byteAt p 0) (word32At p 1) (byteAt p 5)
  | 0x32 => .confirm fr (byteAt p 0) (word32At p 1)
  | 0x33 => .recallRecord fr (byteAt p 0) (word32At p 1)
  | 0x34 => .adoptPart fr (byteAt p 0) (partBytes p 1)
  | 0x35 => .adoptCommit fr
  | 0x36 => .adoptAbort fr
  | _ => .unknownCommand code fr

/-- A transaction that ended at CSN rise while no command was executing, sorted by what was clocked in: its whole
bytes and the bits beyond the last of them (R177). A frame that ends during an execution is FRAME_DISCARDED, which
the meaning of every command decides (R183). -/
def decodeTransaction (bytes : List Byte) (stray : Nat) : Instr :=
  match bytes with
  | [] => .shortTransaction stray
  | code :: rest =>
    if code = 0 then .responseRead bytes.length
    else decodeCommand code ⟨bytes.length, rest.headD 0, stray⟩ (rest.drop 1)

/-- The payload bytes of a host command, in the order and width of 11.4; none for an event. -/
def payloadBytes : Instr → List Byte
  | .find _ id => bytes32 id
  | .view _ h => [h]
  | .survey _ f c v h => [f, c] ++ bytes32 v ++ [h]
  | .zone _ z => [z]
  | .door _ c => [c]
  | .probe _ p => [p]
  | .profile _ i => [i]
  | .fixTick _ i => [i]
  | .setProbe _ p z zero gain => [p, z] ++ bytes16 zero ++ bytes16 gain
  | .setZone _ z k h cap il d a m sp => [z, k] ++ bytes16 h ++ [cap, il] ++ bytes16 d ++ [a] ++ bytes16 m ++ bytes16 sp
  | .setDefrostMask _ m => [m]
  | .setHandover _ w => bytes16 w
  | .setAlert _ l c m => [l, c, m]
  | .ackAlert _ l => [l]
  | .defineProfile _ i u l bh bl ba => [i] ++ bytes16 u ++ bytes16 l ++ bytes32 bh ++ bytes32 bl ++ bytes32 ba
  | .clearProfile _ i => [i]
  | .load _ id p c => bytes32 id ++ [p, c]
  | .shift _ h id e d => [h] ++ bytes32 id ++ [e, d]
  | .stage _ h id e => [h] ++ bytes32 id ++ [e]
  | .restow _ h id c => [h] ++ bytes32 id ++ [c]
  | .deliver _ h id => [h] ++ bytes32 id
  | .writeOff _ h id => [h] ++ bytes32 id
  | .release _ h id => [h] ++ bytes32 id
  | .handOff _ h id => [h] ++ bytes32 id
  | .exportPart _ h id k => [h] ++ bytes32 id ++ [k]
  | .confirm _ h id => [h] ++ bytes32 id
  | .recallRecord _ h id => [h] ++ bytes32 id
  | .adoptPart _ k bs => k :: bs.toList
  | .coldStart _ => []
  | .vbakLoss => []
  | .vbakRestore => []
  | .vsupLoss => []
  | .vsupReturn _ => []
  | .resetnLow => []
  | .pinReset _ _ => []
  | .retryWindowEnd _ => []
  | .crystalStop => []
  | .secondEvent _ => []
  | .scan => []
  | .probeRisingEdge _ => []
  | .gateClose => []
  | .tick => []
  | .tickPassVisit => []
  | .holdExpiry _ => []
  | .doorInputChange _ _ => []
  | .doorOpen _ => []
  | .doorClose _ => []
  | .dwellExpiry _ => []
  | .defrostInputChange _ => []
  | .defrostRise => []
  | .defrostFall => []
  | .allowanceExpiry _ => []
  | .deadlineLapse _ => []
  | .pulseEnd _ => []
  | .frameDiscarded _ => []
  | .shortTransaction _ => []
  | .responseRead _ => []
  | .responseReady => []
  | .unknownCommand _ _ => []
  | .status _ => []
  | .attention _ => []
  | .adoptCommit _ => []
  | .adoptAbort _ => []

/-- The bytes of a host command sent whole: code, payload length, payload (R178); none for an event. -/
def encodeCommand (i : Instr) : List Byte :=
  match i.code? with
  | none => []
  | some c => c :: byte (payloadBytes i).length :: payloadBytes i

/-- The command that a word spells by the bits of spec/opcode_table.json: no row of the table has bits, so none. -/
def decodeTableWord (_nbits _w : Nat) : Option Instr := none

end Sys2Proof
end

