-- ==== Sys2Proof/Machine/Fold.lean ====
section
/-! DEFINITION. The fold unit (chapter 7): the CRC, the step block, the fold of a record, the image check. -/

namespace Sys2Proof.Machine

/-- Feeding one bit into a 16-bit value (R125). -/
def crcBit (f : Word16) (b : Bool) : Word16 :=
  let feedback := f.getLsbD 15 != b
  let shifted := f <<< 1
  if feedback then shifted ^^^ 0x1021 else shifted

/-- Feeding a byte, bit 7 down to bit 0 (R125). -/
def crcByte (f : Word16) (x : Byte) : Word16 :=
  [7, 6, 5, 4, 3, 2, 1, 0].foldl (fun f i => crcBit f (x.getLsbD i)) f

/-- Feeding bytes in turn (R125). -/
def crcBytes (f : Word16) (bs : List Byte) : Word16 := bs.foldl crcByte f

/-- The starting value of the fold of a new record and of an image check (R125). -/
def crcStart : Word16 := 0xFFFF

/-- The custody steps (R128). -/
inductive StepCode where
  | load
  | shift
  | stage
  | restow
  | deliver
  | writeOff
  | handOff
  | confirm
  | recalled
  | lapse
  | adopt
  | brk
  | unproven
  deriving DecidableEq, Repr

/-- The code of a step (R128). -/
def StepCode.number : StepCode → Nat
  | .load => 1
  | .shift => 2
  | .stage => 3
  | .restow => 4
  | .deliver => 5
  | .writeOff => 6
  | .handOff => 7
  | .confirm => 8
  | .recalled => 9
  | .lapse => 10
  | .adopt => 11
  | .brk => 12
  | .unproven => 13

/-- The ordinal of a status: INTACT 0, AT_RISK 1, UNPROVEN 2, BROKEN 3 (R113, R127, R185). -/
def Status.ordinal : Status → Nat
  | .intact => 0
  | .atRisk => 1
  | .unproven => 2
  | .broken _ => 3

/-- The step block of eight bytes (R127). -/
def stepBlock (code : StepCode) (fromPlace toPlace : Nat) (status : Status) (custodySeconds : Nat) : List Byte :=
  [byte code.number, byte fromPlace, byte toPlace, byte status.ordinal] ++ nat32 custodySeconds

/-- A step fed into a record's fold, with the record's own status and custody seconds (R127, R129). -/
def Record.foldStep (code : StepCode) (fromPlace toPlace : Nat) (r : Record) : Record :=
  { r with fold := crcBytes r.fold (stepBlock code fromPlace toPlace r.status r.custodySeconds) }

/-- The image check: the CRC over image bytes 0 to 45 (R131, R132). -/
def imageCheck (image : List Byte) : Word16 := crcBytes crcStart (image.take 46)

end Sys2Proof.Machine
end

