-- ==== Sys2Proof/Machine/Flags.lean ====
section
/-! DEFINITION. Every flags byte and mask the spec lays out: the attention set and its mask, the response flags, the
status and marks byte, the flags of the ZONE and DOOR responses. -/

namespace Sys2Proof.Machine

/-- All kinds, in the order of their bits (R165, R167). -/
def Kind.all : List Kind :=
  [.coldStart, .powerReturn, .recordBreak, .unproven, .probeFault, .timebaseLost, .handoverLapsed, .doorDwell,
    .doorOverrun, .defrostOverrun]

/-- The bit of a kind in the attention mask (R165, R167). -/
def Kind.bitNumber : Kind → Nat
  | .coldStart => 0
  | .powerReturn => 1
  | .recordBreak => 2
  | .unproven => 3
  | .probeFault => 4
  | .timebaseLost => 5
  | .handoverLapsed => 6
  | .doorDwell => 7
  | .doorOverrun => 8
  | .defrostOverrun => 9

/-- Raising a kind: it is added to the set, once (R167). The set is kept in the order of the bits. -/
def raiseIn (k : Kind) (set : List Kind) : List Kind := Kind.all.filter fun x => x == k || set.contains x

/-- The attention mask: the bit of each present kind set, bits 10 to 15 zero (R165, R168). -/
def attentionMask (set : List Kind) : Word16 :=
  Kind.all.foldl (fun m k => if set.contains k then m ||| ((1 : Word16) <<< k.bitNumber) else m) 0

/-- The flags byte of a response: bit 0 the overrun flag, bit 1 whether the attention set is non-empty (R180). -/
def responseFlags (overrun attention : Bool) : Byte := bit 0 overrun ||| bit 1 attention

/-- The status and marks byte (R185). -/
def statusByte (status : Status) (m : Marks) : Byte :=
  byte status.ordinal ||| bit 2 m.timing ||| bit 3 m.adopted ||| bit 4 m.aboveNow ||| bit 5 m.belowNow |||
    bit 6 m.lapsed

/-- The marks an image carries: the three dynamic marks are written clear (R137, R186). -/
def Marks.forImage (m : Marks) : Marks := { m with aboveNow := false, belowNow := false, lapsed := false }

/-- The flags of the ZONE response (R161). -/
def zoneFlags (doorOpen dwell episode granted : Bool) : Byte :=
  bit 0 doorOpen ||| bit 1 dwell ||| bit 2 episode ||| bit 3 granted

/-- The flags of the DOOR response (R162). -/
def doorFlags (doorOpen overrun dwell present reported : Bool) : Byte :=
  bit 0 doorOpen ||| bit 1 overrun ||| bit 2 dwell ||| bit 3 present ||| bit 4 reported

/-- The numbers of the result codes (R184). -/
def ResultCode.number : ResultCode → Byte
  | .ok => 0x00
  | .pending => 0x01
  | .noResponse => 0x02
  | .framing => 0x03
  | .unknownCommand => 0x04
  | .range => 0x05
  | .notReady => 0x06
  | .alreadyFixed => 0x07
  | .noProfile => 0x08
  | .inUse => 0x09
  | .duplicate => 0x0A
  | .tableFull => 0x0B
  | .zoneFull => 0x0C
  | .notFound => 0x0D
  | .staleHandle => 0x0E
  | .wrongState => 0x0F
  | .mismatch => 0x10
  | .doorClosed => 0x11
  | .late => 0x12
  | .sequence => 0x13
  | .badCheck => 0x14
  | .badImage => 0x15

end Sys2Proof.Machine
end

