-- ==== Sys2Proof/Machine/Limits.lean ====
section
/-! DEFINITION. The limits and ranges the rules state, each named once. -/

namespace Sys2Proof.Machine

/-- Most entries of the stage list (R82). -/
abbrev stageLimit : Nat := 8

/-- Most handles on one page of a survey (R159). -/
abbrev pageLimit : Nat := 32

/-- Factory nominal trim in RC periods per second (R1). -/
abbrev factoryTrim : Nat := 1048576

/-- Least and greatest count taken as a trim (R1). -/
abbrev trimLow : Nat := 786432
abbrev trimHigh : Nat := 1310720

/-- The tick intervals FIX_TICK accepts (R9). -/
def tickIntervals : List Nat := [10, 15, 20, 30, 60]

/-- Ends of the range of probe values, air figures, estimates and profile limits (00_scope.md, section 7). -/
abbrev tempLow : Int := -400
abbrev tempHigh : Int := 700

/-- Ends of the band of accepted conversions (R25). -/
abbrev acceptLow : Int := -550
abbrev acceptHigh : Int := 850

/-- Smallest count that is not a dead input (R25). -/
abbrev deadCount : Nat := 16

/-- Greatest magnitude of a probe's gain (R19, R20). -/
abbrev gainLimit : Int := 4095

/-- Greatest lag and hold time of a zone (R38). -/
abbrev lagMax : Nat := 11
abbrev holdMax : Nat := 600

/-- Ranges of a compartment's settings (R38). -/
abbrev capacityMax : Nat := 24
abbrev dwellMax : Nat := 3600
abbrev raiseMax : Nat := 100
abbrev defrostMaxLow : Nat := 60
abbrev defrostMaxHigh : Nat := 3600
abbrev spacingMax : Nat := 14400

/-- Range of the hand-off window (R134). -/
abbrev windowLow : Nat := 30
abbrev windowHigh : Nat := 3600

/-- Greatest payload length of a command frame (R178). -/
abbrev payloadMax : Nat := 40

/-- FREE count at and below which TABLE_NEAR_FULL holds (R171). -/
abbrev nearFull : Nat := 4

/-- Shortest low pulse of RESETN, in microseconds, that is certainly a pin reset (R17). -/
abbrev resetPulseMicros : Nat := 10

end Sys2Proof.Machine
end

