-- ==== Sys2Proof/Machine/Ops.lean ====
section
/-! DEFINITION. The named operations over the state: reading and writing each block's parts, the ordered lists of
the consignment table, the counts. Zones are numbered 1..5, compartments 1..4, slots 0..47, probes and profiles 0..7,
lines 0..1; a write outside its range changes nothing. -/

namespace Sys2Proof.Machine

/-! ### A record's place and last charge -/

/-- The place of a record: its state decides it (R70, R72). -/
def Custody.place : Custody → Nat
  | .loaded c _ => c
  | .staged _ => 5
  | .handover _ _ => 5
  | .closed _ => 6

def Record.place (r : Record) : Nat := r.custody.place

/-- Last charge, present in LOADED and STAGED (R70). -/
def Record.lastCharge? (r : Record) : Option Nat :=
  match r.custody with
  | .loaded _ t => some t
  | .staged t => some t
  | .handover _ _ => none
  | .closed _ => none

/-- The custody of a LOADED or STAGED record with its last charge moved on (R110); other custodies hold none. -/
def Custody.chargedAt (t : Nat) : Custody → Custody
  | .loaded c _ => .loaded c t
  | .staged _ => .staged t
  | .handover f d => .handover f d
  | .closed k => .closed k

def Record.isLoaded (r : Record) : Bool :=
  match r.custody with
  | .loaded _ _ => true
  | .staged _ => false
  | .handover _ _ => false
  | .closed _ => false

def Record.isStaged (r : Record) : Bool :=
  match r.custody with
  | .loaded _ _ => false
  | .staged _ => true
  | .handover _ _ => false
  | .closed _ => false

def Record.isHandover (r : Record) : Bool :=
  match r.custody with
  | .loaded _ _ => false
  | .staged _ => false
  | .handover _ _ => true
  | .closed _ => false

def Record.isClosed (r : Record) : Bool :=
  match r.custody with
  | .loaded _ _ => false
  | .staged _ => false
  | .handover _ _ => false
  | .closed _ => true

namespace State

/-! ### Reading -/

/-- Now: the trip-clock value (R5). -/
def now (s : State) : Nat := s.tb.trip

/-- Whether the part is in RUN, and whether it has any supply. -/
def running (s : State) : Bool := s.tb.power == .run
def powered (s : State) : Bool := s.tb.power != .off

/-- A present compartment: its number does not exceed the latched count (R16). -/
def compPresent (s : State) (c : Nat) : Bool := decide (1 ≤ c ∧ c ≤ s.tb.presentCount ∧ c ≤ 4)

/-- A zone that can be named: a present compartment, or the ambient zone 5 (R16). -/
def zonePresent (s : State) (z : Nat) : Bool := z == 5 || s.compPresent z

/-- The record in a slot; none for a FREE slot and for a number above 47. -/
def record? (s : State) (h : Nat) : Option Record := (s.ct.slots[h]?).join

/-- Zone z of 1..5. -/
def zoneAt (s : State) : Nat → Zone
  | 0 => Zone.initial
  | n + 1 => (s.zm.zones[n]?).getD Zone.initial

/-- Compartment c of 1..4. -/
def compAt (s : State) : Nat → Compartment
  | 0 => Compartment.initial
  | n + 1 => (s.zm.comps[n]?).getD Compartment.initial

def probeAt (s : State) (p : Nat) : Probe := (s.ps.probes[p]?).getD Probe.cold

def profileAt (s : State) (i : Nat) : Profile := (s.pt[i]?).getD Profile.undefined

/-- The member list of compartment c (R80). -/
def membersOf (s : State) : Nat → List Nat
  | 0 => []
  | n + 1 => (s.ct.members[n]?).getD []

/-- The members of a zone: a compartment's member list, the stage list for zone 5 (R81, R161). -/
def zoneMembers (s : State) (z : Nat) : List Nat := if z = 5 then s.ct.stage else s.membersOf z

/-- The FREE count: the number of FREE slots (R102). -/
def freeSlots (s : State) : Nat := s.ct.slots.toList.countP Option.isNone

/-- The CLOSED count: the number of CLOSED records (R102). -/
def closedSlots (s : State) : Nat := s.ct.slots.toList.countP fun x => x.any Record.isClosed

/-- The lowest-numbered FREE slot (R75). -/
def lowestFree? (s : State) : Option Nat := (List.range 48).find? fun h => (s.record? h).isNone

/-- The handle of the record that holds an ID, looked up through the ID index (R78, R155). -/
def findId? (s : State) (id : Word32) : Option Nat := s.ct.index.find? fun h => (s.record? h).any fun r => r.id == id

/-! ### Writing -/

/-- A kind is raised in the attention set (R167). -/
def raise (k : Kind) (s : State) : State := { s with au := { s.au with attention := raiseIn k s.au.attention } }

/-- A kind is raised where there is one to raise. -/
def raise? (k : Option Kind) (s : State) : State :=
  match k with
  | none => s
  | some k => s.raise k

def setRecord (h : Nat) (r : Option Record) (s : State) : State :=
  { s with ct := { s.ct with slots := s.ct.slots.setIfInBounds h r } }

def modifyZone (z : Nat) (f : Zone → Zone) (s : State) : State :=
  { s with zm := { s.zm with zones := s.zm.zones.mapIdx fun i x => if i + 1 = z then f x else x } }

def modifyComp (c : Nat) (f : Compartment → Compartment) (s : State) : State :=
  { s with zm := { s.zm with comps := s.zm.comps.mapIdx fun i x => if i + 1 = c then f x else x } }

/-- A change to every present compartment, given its number. -/
def mapPresentComps (f : Nat → Compartment → Compartment) (s : State) : State :=
  { s with
    zm := { s.zm with comps := s.zm.comps.mapIdx fun i x => if s.compPresent (i + 1) then f (i + 1) x else x } }

def modifyProbe (p : Nat) (f : Probe → Probe) (s : State) : State :=
  { s with ps := { s.ps with probes := s.ps.probes.mapIdx fun i x => if i = p then f x else x } }

def modifyProfile (i : Nat) (f : Profile → Profile) (s : State) : State :=
  { s with pt := s.pt.mapIdx fun j x => if j = i then f x else x }

def modifyLine (l : Nat) (f : Line → Line) (s : State) : State :=
  { s with au := { s.au with lines := s.au.lines.mapIdx fun i x => if i = l then f x else x } }

/-! ### The ordered lists (R78 to R83) -/

/-- A handle joins the list its custody belongs to, as the newest entry (R80, R81). -/
def joinList (h : Nat) (custody : Custody) (s : State) : State :=
  match custody with
  | .loaded c _ =>
    { s with ct := { s.ct with members := s.ct.members.mapIdx fun i l => if i + 1 = c then l ++ [h] else l } }
  | .staged _ => { s with ct := { s.ct with stage := s.ct.stage ++ [h] } }
  | .handover _ _ => { s with ct := { s.ct with stage := s.ct.stage ++ [h] } }
  | .closed _ => s

/-- A handle leaves the list that holds it; the other entries keep their order (R81). -/
def leaveLists (h : Nat) (s : State) : State :=
  { s with
    ct :=
      { s.ct with
        members := s.ct.members.mapIdx fun _ l => l.filter (· != h)
        stage := s.ct.stage.filter (· != h) } }

/-- A handle enters the ID index between the next lower and the next higher ID present (R79). -/
def insertIndex (h : Nat) (id : Word32) (s : State) : State :=
  let below := fun k => (s.record? k).any fun r => decide (r.id.toNat < id.toNat)
  { s with ct := { s.ct with index := s.ct.index.takeWhile below ++ h :: s.ct.index.dropWhile below } }

/-- A handle leaves the ID index (R79). -/
def removeIndex (h : Nat) (s : State) : State := { s with ct := { s.ct with index := s.ct.index.filter (· != h) } }

end State

end Sys2Proof.Machine
end

