-- ==== Sys2Proof/Machine/Measure.lean ====
section
/-! DEFINITION. The arithmetic of measurement: from a count to a temperature, the reading window and the probe value,
the probe states (chapter 2); air figures, sensing states and product estimates of a zone (chapter 3). -/

namespace Sys2Proof.Machine

/-! ### From count to reading -/

/-- V / 256 rounded to the nearest integer, a half away from zero (R24). -/
def divRound256 (v : Int) : Int := if 0 ≤ v then (v + 128) / 256 else -((-v + 128) / 256)

/-- The temperature of a count with a probe's zero count and gain (R24). -/
def convertCount (n zeroCount : Nat) (gain : Int) : Int := divRound256 (((n : Int) - (zeroCount : Int)) * gain)

/-- Whether a reading is rejected (R25). -/
def rejectedReading (n : Nat) (t : Int) : Bool :=
  decide (n < deadCount) || decide (n = maxU16) || decide (t < acceptLow) || decide (acceptHigh < t)

/-- A temperature clamped to the product range (R26). -/
def clampTemp (t : Int) : Int := clampInt tempLow tempHigh t

/-- An accepted reading appended to a window that keeps the four newest (R28). -/
def appendReading (w : List Int) (x : Int) : List Int := (if 4 ≤ w.length then w.drop 1 else w) ++ [x]

/-- The mean of two readings rounded toward +∞: the greatest integer not above (a + b + 1) / 2 (R29). -/
def meanUp (a b : Int) : Int := (a + b + 1) / 2

/-- A list sorted by value, by insertion. -/
def insertSorted (x : Int) : List Int → List Int
  | [] => [x]
  | y :: ys => if x ≤ y then x :: y :: ys else y :: insertSorted x ys
def sortInts (l : List Int) : List Int := l.foldr insertSorted []

/-- The probe value W of a window, absent while it is empty (R29). -/
def probeValue? (w : List Int) : Option Int :=
  match sortInts w with
  | [] => none
  | [a] => some a
  | [a, b] => some (meanUp a b)
  | [_, b, _] => some b
  | _ :: b :: c :: _ :: _ => some (meanUp b c)

/-! ### Probe states (R30 to R33) -/

/-- An accepted reading applied to the window and the state (R28, R31 to R33). -/
def Probe.accept (x : Int) (p : Probe) : Probe :=
  let w := appendReading p.window x
  match p.state with
  | .off => p
  | .filling => { p with window := w, rejects := 0, state := if w.length = 2 then .active else .filling }
  | .active => { p with window := w, rejects := 0 }
  | .faulted => { p with window := w, rejects := 0, state := if w.length = 4 then .active else .faulted }

/-- A rejected reading applied to the reject counter and the state (R31 to R33). -/
def Probe.reject (p : Probe) : Probe :=
  match p.state with
  | .off => p
  | .filling =>
    if 3 ≤ p.rejects + 1 then { p with rejects := 3, state := .faulted, window := [] }
    else { p with rejects := p.rejects + 1 }
  | .active =>
    if 3 ≤ p.rejects + 1 then { p with rejects := 3, state := .faulted, window := [] }
    else { p with rejects := p.rejects + 1 }
  | .faulted => { p with window := [], rejects := min (p.rejects + 1) 3 }

/-- One reading of count `n`: converted, tested, clamped, recorded, applied (R23 to R28). An OFF probe makes none
(R30). -/
def Probe.read (n : Nat) (p : Probe) : Probe :=
  if p.state = .off then p
  else
    let t := convertCount n p.zeroCount p.gain
    let q := { p with lastCount := n, lastTemp := t }
    if rejectedReading n t then q.reject
    else { q with clamped := decide (clampTemp t ≠ t) }.accept (clampTemp t)

/-- A probe's part in a gate-close: it makes a reading if it counted in the gate (R21, R23). -/
def Probe.closeGate (p : Probe) : Probe :=
  match p.edges with
  | none => p
  | some n => { p.read n with edges := none }

/-- A probe at a scan: its count begins at 0 unless it is OFF (R22). -/
def Probe.openGate (p : Probe) : Probe := { p with edges := if p.state = .off then none else some 0 }

/-- A rising edge on the input of a counting probe; the count saturates at 65535 (R22). -/
def Probe.edge (p : Probe) : Probe := { p with edges := p.edges.map fun n => satAdd maxU16 n 1 }

/-- A probe restarted by a pin reset or a main return (R36, R37). -/
def Probe.restart (p : Probe) : Probe :=
  { p with window := [], rejects := 0, state := if p.zone = 0 then .off else .filling, edges := none }

/-- Whether a probe went from ACTIVE to FAULTED (R23, R32). -/
def probeFailed (before after : Probe) : Bool := before.state == .active && after.state == .faulted

/-! ### Zone figures (R41 to R45) -/

/-- The largest and the smallest of the values of a hand-over set that begins with `x` (R41). -/
def largest (x : Int) (xs : List Int) : Int := xs.foldl max x
def smallest (x : Int) (xs : List Int) : Int := xs.foldl min x

/-- One step of an estimate toward its air figure (R45). -/
def stepToward (lag : Nat) (air estimate : Int) : Int :=
  let d := air - estimate
  let q := d.tdiv (2 ^ lag)
  let step := if q = 0 then d.sign else q
  estimate + step

/-- Both estimates take one step (R45). -/
def Zone.stepEstimates (z : Zone) : Zone :=
  { z with warm := stepToward z.lag z.airMax z.warm, cold := stepToward z.lag z.airMin z.cold }

/-- A SENSED zone that lost all its probes, or met a pin reset: HELD for H seconds, or BLIND if H is 0 (R42, R60). -/
def Zone.lose (now : Nat) (z : Zone) : Zone :=
  if z.hold = 0 then { z with sensing := .blind } else { z with sensing := .held (now + z.hold) }

/-- A zone at a gate-close with its hand-over set (R41, R42, R45). -/
def Zone.gateClose (now : Nat) (set : List Int) (z : Zone) : Zone :=
  match set, z.sensing with
  | [], .sensed => if z.hold = 0 then z.lose now else (z.lose now).stepEstimates
  | [], .held _ => z.stepEstimates
  | [], .blind => z
  | x :: xs, .blind =>
    let hi := largest x xs
    let lo := smallest x xs
    { z with sensing := .sensed, airMax := hi, airMin := lo, warm := hi, cold := lo }
  | x :: xs, .sensed =>
    { z with sensing := .sensed, airMax := largest x xs, airMin := smallest x xs }.stepEstimates
  | x :: xs, .held _ =>
    { z with sensing := .sensed, airMax := largest x xs, airMin := smallest x xs }.stepEstimates

/-- The hand-over set of a zone: the values of the ACTIVE probes mapped to it (R34). -/
def handOverSet (probes : List Probe) (z : Nat) : List Int :=
  (probes.filter fun p => p.state == .active && p.zone == z).filterMap fun p => probeValue? p.window

/-- A pin reset on a zone: SENSED becomes HELD or BLIND, the rest stands (R60). -/
def Zone.pinReset (now : Nat) (z : Zone) : Zone :=
  match z.sensing with
  | .sensed => z.lose now
  | .held _ => z
  | .blind => z

/-! ### Doors and defrost of a compartment -/

/-- The door-open event (R47); the overrun of step 1 is `openOverruns`. -/
def openOverruns (c : Compartment) : Bool := c.opening.any fun o => !o.reported

def Compartment.openDoor (now : Nat) (c : Compartment) : Compartment :=
  { c with
    overrun := c.overrun || openOverruns c
    opening := some ⟨now, none, false⟩
    openings := satAdd maxU16 c.openings 1
    dwellDeadline := if 0 < c.dwellLimit then some (now + c.dwellLimit) else none
    doorOpen := true }

/-- An opening completed at a second, if its duration is absent (R48, R59). -/
def Opening.complete (now : Nat) (o : Opening) : Opening :=
  match o.duration with
  | none => { o with duration := some (now - o.openAt) }
  | some _ => o

/-- The door-close event (R48). -/
def Compartment.closeDoor (now : Nat) (c : Compartment) : Compartment :=
  { c with
    doorOpen := false
    dwellFlag := false
    dwellDeadline := none
    opening := c.opening.map (Opening.complete now) }

/-- Whether an episode starting now has its allowance granted (R54). -/
def Compartment.grants (now : Nat) (c : Compartment) : Bool :=
  match c.previousEnd with
  | none => true
  | some e => decide (c.spacing ≤ now - e)

/-- An episode starts (R54). -/
def Compartment.startEpisode (now : Nat) (c : Compartment) : Compartment :=
  { c with
    episode := some ⟨now, if c.grants now then some ⟨c.raise, now + c.defrostMax⟩ else none⟩ }

/-- An episode in progress ends at a second (R56). -/
def Compartment.endEpisode (now : Nat) (c : Compartment) : Compartment :=
  match c.episode with
  | none => c
  | some _ => { c with episode := none, previousEnd := some now }

/-- The raise of the allowance in force, 0 without one (R57, R107). -/
def Compartment.raiseInForce (c : Compartment) : Int :=
  match c.episode.bind Episode.allowance with
  | none => 0
  | some a => a.raise

/-- A compartment at backup entry: an open door's opening is closed at the entry second with its dwell state, the
door state becomes closed, its debounce stops, its episode ends (R59). -/
def Compartment.backupEntry (now : Nat) (c : Compartment) : Compartment :=
  let c1 := if c.doorOpen then c.closeDoor now else c
  { c1.endEpisode now with doorOpen := false, debouncing := false }

end Sys2Proof.Machine
end

