-- ==== Sys2Proof/Machine/Accrual.lean ====
section
/-! DEFINITION. Exposure accrual (chapter 6): the settle, the status evaluation with its rises, and the charge of a
frozen interval (R140). -/

namespace Sys2Proof.Machine

/-- What a settle reads at its instant (R104): the zone's sensing state and estimates, the raise of a granted
allowance, the profile, the time base. -/
structure Readings where
  blind : Bool
  warm : Int
  cold : Int
  raise : Int
  profile : Profile
  degraded : Bool
  lastDegraded : Option Nat
  deriving DecidableEq, Repr

/-- The timing test: the time base is DEGRADED, or the last-degraded second is present and not earlier than the start
of the charged interval (R112, R140). -/
def timingEstimated (degraded : Bool) (lastDegraded : Option Nat) (since : Nat) : Bool :=
  degraded || lastDegraded.any fun d => decide (since ≤ d)

/-! ### The zone charge (R106 to R109) -/

def chargeBlind (delta : Nat) (r : Record) : Record :=
  { r with
    blindSeconds := satAdd32 r.blindSeconds delta
    marks := { r.marks with aboveNow := false, belowNow := false } }

/-- The upper and lower excess (R107, R108). -/
def upperExcess (g : Readings) : Int := g.warm - (g.profile.upper + g.raise)
def lowerExcess (g : Readings) : Int := g.profile.lower - g.cold

/-- An excess of 0 or below adds nothing (R108): `Int.toNat` is 0 there. -/
def chargeSensed (g : Readings) (delta : Nat) (r : Record) : Record :=
  { r with
    upperExposure := satAdd32 r.upperExposure ((upperExcess g).toNat * delta)
    lowerExposure := satAdd32 r.lowerExposure ((lowerExcess g).toNat * delta)
    peakExcess := max r.peakExcess (max (upperExcess g).toNat (lowerExcess g).toNat)
    marks := { r.marks with aboveNow := decide (0 < upperExcess g), belowNow := decide (0 < lowerExcess g) } }

/-! ### Status (R113, R114) -/

/-- The candidate status of a record against its profile (R113). -/
def candidate (p : Profile) (r : Record) : Status :=
  if p.upperBudget < r.upperExposure ∨ p.lowerBudget < r.lowerExposure then .broken r.custodySeconds
  else if p.blindAllowance < r.blindSeconds then .unproven
  else if 0 < r.upperExposure ∨ 0 < r.lowerExposure ∨ 0 < r.blindSeconds then .atRisk
  else .intact

/-- The effects of a rise to a status: first-break, the status step folded at the record's place, the kind (R114). -/
def Record.rise (new : Status) (r : Record) : Record × Option Kind :=
  let r1 := { r with status := new }
  match new with
  | .intact => (r1, none)
  | .atRisk => (r1, none)
  | .unproven => (r1.foldStep .unproven r.place r.place, some .unproven)
  | .broken _ => (r1.foldStep .brk r.place r.place, some .recordBreak)

/-- The status evaluation: the greater of the present status and the candidate (R113, R114). -/
def Record.evaluate (p : Profile) (r : Record) : Record × Option Kind :=
  if r.status.ordinal < (candidate p r).ordinal then r.rise (candidate p r) else (r, none)

/-! ### The settle (R103) -/

/-- The charge of an interval of `delta` seconds up to `t` that began at `since`: the zone charge, custody seconds
and last charge, the timing mark (R103 parts 1 to 3). -/
def Record.charge (g : Readings) (since delta t : Nat) (r : Record) : Record :=
  let r1 := if g.blind then chargeBlind delta r else chargeSensed g delta r
  { r1 with
    custodySeconds := satAdd32 r1.custodySeconds delta
    custody := r1.custody.chargedAt t
    marks := { r1.marks with timing := r1.marks.timing || timingEstimated g.degraded g.lastDegraded since } }

/-- Settling a record at second `t` (R103); the kind its status evaluation raises, if any. -/
def Record.settle (g : Readings) (t : Nat) (r : Record) : Record × Option Kind :=
  match r.lastCharge? with
  | none => (r, none)
  | some since =>
    if t ≤ since then (r, none) else (r.charge g since (t - since) t).evaluate g.profile

/-- The zone a LOADED or STAGED record is charged against (R104): its place. -/
def State.readings (s : State) (r : Record) : Readings where
  blind := (s.zoneAt r.place).sensing == .blind
  warm := (s.zoneAt r.place).warm
  cold := (s.zoneAt r.place).cold
  raise := if r.isLoaded then (s.compAt r.place).raiseInForce else 0
  profile := s.profileAt r.profile
  degraded := s.tb.degraded
  lastDegraded := s.tb.lastDegraded

/-- The record in slot `h` is settled at `t`, its rise folded and raised (R103, R114). -/
def State.settle (h t : Nat) (s : State) : State :=
  match s.record? h with
  | none => s
  | some r => (s.setRecord h (some (r.settle (s.readings r) t).1)).raise? (r.settle (s.readings r) t).2

/-! ### The frozen interval (R140) -/

/-- A frozen record charged blind up to `t` and returned to STAGED with last charge `t` (R140 parts 1 and 2). -/
def Record.thaw (degraded : Bool) (lastDegraded : Option Nat) (frozenAt t : Nat) (r : Record) : Record :=
  let f := t - frozenAt
  { r with
    blindSeconds := satAdd32 r.blindSeconds f
    custodySeconds := satAdd32 r.custodySeconds f
    custody := .staged t
    marks :=
      { r.marks with
        timing := r.marks.timing || (decide (0 < f) && timingEstimated degraded lastDegraded frozenAt) } }

/-- The frozen-interval charge of the record in slot `h` at `t`, then the caller's step (R140 to R142). A record
that is not HANDOVER is left alone. -/
def State.thaw (h t : Nat) (code : StepCode) (s : State) : State :=
  match s.record? h with
  | none => s
  | some r =>
    match r.custody with
    | .handover frozenAt _ =>
      let e := (r.thaw s.tb.degraded s.tb.lastDegraded frozenAt t).evaluate (s.profileAt r.profile)
      (s.setRecord h (some (e.1.foldStep code 5 5))).raise? e.2
    | .loaded _ _ => s
    | .staged _ => s
    | .closed _ => s

/-! ### Commands that settle, fold and move (R85) -/

/-- Steps 1 to 3 of R85 for the record in slot `h`: the settle at now, the command's step folded from the place
before to the place after, then the new custody and the lists. `after` gives the custody from the last charge. -/
def State.carryOut (h : Nat) (code : StepCode) (after : Nat → Custody) (s : State) : State :=
  let s1 := s.settle h s.now
  match s1.record? h with
  | none => s1
  | some r =>
    let custody := after (r.lastCharge?.getD s.now)
    let r1 := { r.foldStep code r.place custody.place with custody := custody }
    ((s1.setRecord h (some r1)).leaveLists h).joinList h custody

end Sys2Proof.Machine
end

