-- ==== Sys2Proof/Machine/Image.lean ====
section
/-! DEFINITION. The record view (R157, R185), the record image (R137, R186), its reading back and its consistency
(R148), the adoption match (R68), and the payloads of the queries (chapter 9). -/

namespace Sys2Proof.Machine

/-- State and close kind codes (R157, R185). -/
def Custody.stateCode : Custody → Nat
  | .loaded _ _ => 1
  | .staged _ => 2
  | .handover _ _ => 3
  | .closed _ => 4

def CloseKind.number : CloseKind → Nat
  | .delivered => 1
  | .handedOver => 2
  | .writtenOff => 3

def Custody.closeCode : Custody → Nat
  | .loaded _ _ => 0
  | .staged _ => 0
  | .handover _ _ => 0
  | .closed k => k.number

/-- The first-break field: the value in BROKEN, FFFFFFFFh otherwise (R157). -/
def Status.firstBreakField : Status → Nat
  | .intact => maxU32
  | .atRisk => maxU32
  | .unproven => maxU32
  | .broken b => b

/-- The record view of 34 bytes (R185). -/
def recordView (h : Nat) (r : Record) : List Byte :=
  [byte h, byte (r.custody.stateCode + 16 * r.custody.closeCode), byte r.place, byte r.profile,
    statusByte r.status r.marks, byte r.handOffs] ++ bytes32 r.id ++ nat32 r.upperExposure ++ nat32 r.lowerExposure ++
    nat32 r.blindSeconds ++ nat32 r.custodySeconds ++ nat32 r.status.firstBreakField ++ nat16 r.peakExcess ++
    bytes16 r.fold

/-- Image bytes 0 to 45 (R137, R186). -/
def imageBody (p : Profile) (r : Record) : List Byte :=
  bytes32 r.id ++ int16 p.upper ++ int16 p.lower ++ nat32 p.upperBudget ++ nat32 p.lowerBudget ++
    nat32 p.blindAllowance ++ nat32 r.upperExposure ++ nat32 r.lowerExposure ++ nat32 r.blindSeconds ++
    nat32 r.custodySeconds ++ nat32 r.status.firstBreakField ++ [statusByte r.status r.marks.forImage, byte r.handOffs] ++
    nat16 r.peakExcess ++ bytes16 r.fold

/-- The record image of 48 bytes, the image check in its last two (R131, R186). -/
def recordImage (p : Profile) (r : Record) : List Byte :=
  imageBody p r ++ bytes16 (imageCheck (imageBody p r))

/-- Part k of an image: its bytes 16k to 16k + 15 (R138). -/
def imagePart (image : List Byte) (k : Nat) : List Byte := (image.drop (16 * k)).take 16

/-- The bytes held in the adoption buffer (R145). -/
def bufferBytes (parts : List (Vector Byte 16)) : List Byte := parts.flatMap Vector.toList

/-! ### The fields of a buffered image (R186) -/

def imageId (b : List Byte) : Word32 := word32At b 0
def imageUpper (b : List Byte) : Int := (word16At b 4).toInt
def imageLower (b : List Byte) : Int := (word16At b 6).toInt
def imageUpperBudget (b : List Byte) : Nat := (word32At b 8).toNat
def imageLowerBudget (b : List Byte) : Nat := (word32At b 12).toNat
def imageAllowance (b : List Byte) : Nat := (word32At b 16).toNat
def imageUpperExposure (b : List Byte) : Nat := (word32At b 20).toNat
def imageLowerExposure (b : List Byte) : Nat := (word32At b 24).toNat
def imageBlind (b : List Byte) : Nat := (word32At b 28).toNat
def imageCustody (b : List Byte) : Nat := (word32At b 32).toNat
def imageFirstBreak (b : List Byte) : Nat := (word32At b 36).toNat
def imageHandOffs (b : List Byte) : Nat := (byteAt b 41).toNat
def imagePeak (b : List Byte) : Nat := (word16At b 42).toNat
def imageFold (b : List Byte) : Word16 := word16At b 44
def imageCheckField (b : List Byte) : Word16 := word16At b 46
def imageTiming (b : List Byte) : Bool := (byteAt b 40).getLsbD 2

/-- The status of an image, from bits 1–0 of byte 40 (R148, R186). -/
def imageStatus (b : List Byte) : Status :=
  match (byteAt b 40).getLsbD 1, (byteAt b 40).getLsbD 0 with
  | false, false => .intact
  | false, true => .atRisk
  | true, false => .unproven
  | true, true => .broken (imageFirstBreak b)

/-- The check-bytes test (R132). -/
def checkMatches (b : List Byte) : Bool := imageCheck b == imageCheckField b

/-- U and L of a valid set of profile values (R63). -/
def limitsValid (upper lower : Int) : Bool :=
  decide (tempLow ≤ upper ∧ upper ≤ tempHigh ∧ tempLow ≤ lower ∧ lower ≤ tempHigh ∧ lower < upper)

/-- The consistency check of an image (R148). -/
def imageConsistent (b : List Byte) : Bool :=
  limitsValid (imageUpper b) (imageLower b) && decide (imageBlind b ≤ imageCustody b) &&
    match imageStatus b with
    | .intact => decide (imageFirstBreak b = maxU32)
    | .atRisk => decide (imageFirstBreak b = maxU32)
    | .unproven => decide (imageFirstBreak b = maxU32)
    | .broken first => decide (first ≤ imageCustody b)

/-- Whether a profile entry matches the image in all five values (R68). -/
def profileMatches (b : List Byte) (p : Profile) : Bool :=
  p.defined && p.upper == imageUpper b && p.lower == imageLower b && p.upperBudget == imageUpperBudget b &&
    p.lowerBudget == imageLowerBudget b && p.blindAllowance == imageAllowance b

/-- The adoption match: the lowest-index defined entry equal in all five values (R68). -/
def State.adoptionMatch? (b : List Byte) (s : State) : Option Nat :=
  (List.range 8).find? fun i => profileMatches b (s.profileAt i)

/-- The record an ADOPT_COMMIT makes, its fold continued with the ADOPT step (R130, R149). -/
def adoptedRecord (b : List Byte) (profile now : Nat) : Record :=
  Record.foldStep .adopt 0 5
    { id := imageId b, custody := .staged now, profile := profile, status := imageStatus b,
      marks := ⟨imageTiming b, true, false, false, false⟩, upperExposure := imageUpperExposure b,
      lowerExposure := imageLowerExposure b, blindSeconds := imageBlind b, custodySeconds := imageCustody b,
      peakExcess := imagePeak b, handOffs := imageHandOffs b, fold := imageFold b }

/-- The record a LOAD makes, its fold started with the ID and the LOAD step (R89, R126). -/
def loadedRecord (id : Word32) (profile compartment now : Nat) : Record :=
  Record.foldStep .load 0 compartment
    { id := id, custody := .loaded compartment now, profile := profile, status := .intact,
      marks := ⟨false, false, false, false, false⟩, upperExposure := 0, lowerExposure := 0, blindSeconds := 0,
      custodySeconds := 0, peakExcess := 0, handOffs := 0, fold := crcBytes crcStart (bytes32 id) }

/-! ### Payloads of the queries -/

/-- Sensing state and probe state codes (R161, R163). -/
def Sensing.number : Sensing → Nat
  | .sensed => 0
  | .held _ => 1
  | .blind => 2

def ProbeState.number : ProbeState → Nat
  | .off => 0
  | .filling => 1
  | .active => 2
  | .faulted => 3

/-- ZONE (R161); the flags are all clear for zone 5. -/
def State.zonePayload (z : Nat) (s : State) : List Byte :=
  let zn := s.zoneAt z
  let c := s.compAt z
  let flags :=
    if z = 5 then 0 else zoneFlags c.doorOpen c.dwellFlag c.episode.isSome (c.episode.bind Episode.allowance).isSome
  [byte z, byte zn.sensing.number] ++ int16 zn.airMax ++ int16 zn.airMin ++ int16 zn.warm ++ int16 zn.cold ++
    [flags, byte (s.zoneMembers z).length] ++ (s.zoneMembers z).map byte

/-- DOOR (R50, R162). -/
def State.doorPayload (c : Nat) (s : State) : List Byte :=
  let k := s.compAt c
  let flags := doorFlags k.doorOpen k.overrun k.dwellFlag k.opening.isSome (k.opening.any Opening.reported)
  [byte c, flags] ++ nat16 k.openings ++
    match k.opening with
    | none => nat32 maxU32 ++ nat32 maxU32
    | some o => nat32 o.openAt ++ nat32 (o.duration.getD maxU32)

/-- The filler 8000h of an absent W or window position (R163). -/
def absentReading : Word16 := 0x8000

/-- Window positions oldest first, filled up to four (R163). -/
def windowField (w : List Int) : List Byte :=
  (List.range 4).flatMap fun i =>
    match w[i]? with
    | none => bytes16 absentReading
    | some x => int16 x

/-- PROBE (R163). -/
def State.probePayload (p : Nat) (s : State) : List Byte :=
  let k := s.probeAt p
  let w :=
    match probeValue? k.window with
    | none => bytes16 absentReading
    | some x => int16 x
  [byte p, byte k.state.number, byte k.zone, byte k.rejects, bit 0 k.clamped] ++ nat16 k.lastCount ++
    int32 k.lastTemp ++ [byte k.window.length] ++ w ++ windowField k.window

/-- PROFILE (R164). -/
def State.profilePayload (i : Nat) (s : State) : List Byte :=
  let p := s.profileAt i
  [byte i, bit 0 p.defined, byte p.useCount] ++ int16 p.upper ++ int16 p.lower ++ nat32 p.upperBudget ++
    nat32 p.lowerBudget ++ nat32 p.blindAllowance

/-- STATUS (R165). -/
def State.statusPayload (s : State) : List Byte :=
  bytes16 Config.partCode ++ [Config.revision] ++ nat32 s.now ++ [byte (s.tb.interval.getD 0), bit 0 s.tb.degraded] ++
    nat32 (s.tb.powerReturn.getD maxU32) ++ nat32 s.tb.outage ++
    [byte s.tb.presentCount, byte s.freeSlots, byte s.closedSlots] ++ bytes16 (attentionMask s.au.attention)

/-! ### Surveys (R158, R159) -/

/-- The field a survey compares, by its number (R158). -/
def surveyField (field : Nat) (r : Record) : Nat :=
  match field with
  | 0 => r.place
  | 1 => r.custody.stateCode
  | 2 => r.status.ordinal
  | 3 => r.profile
  | 4 => r.upperExposure
  | 5 => r.lowerExposure
  | 6 => r.blindSeconds
  | 7 => r.custodySeconds
  | _ => r.peakExcess

/-- Whether a field meets a condition, by its number (R158). -/
def surveyTest (cond field value : Nat) : Bool :=
  match cond with
  | 0 => decide (field = value)
  | 1 => decide (field ≠ value)
  | 2 => decide (value ≤ field)
  | _ => decide (field < value)

/-- The matching handles from the start slot upward, in ascending order (R159). -/
def State.surveyMatches (field cond value start : Nat) (s : State) : List Nat :=
  (List.range 48).filter fun h =>
    decide (start ≤ h) && (s.record? h).any fun r => surveyTest cond (surveyField field r) value

/-- The next field of a page: the slot after the 32nd match where that lies below slot 47, FFh otherwise (R159). -/
def surveyNext (page : List Nat) : Byte :=
  if page.length = pageLimit ∧ page.getLastD 47 < 47 then byte (page.getLastD 47 + 1) else 0xFF

/-- SURVEY (R159). -/
def State.surveyPayload (field cond value start : Nat) (s : State) : List Byte :=
  let page := (s.surveyMatches field cond value start).take pageLimit
  [byte page.length, surveyNext page] ++ page.map byte

end Sys2Proof.Machine
end

