-- ==== Sys2Proof/Machine/Alert.lean ====
section
/-! DEFINITION. The alert unit (chapter 10): the eight conditions, their evaluation after a step, the re-evaluation at
a reset, and the output pins. -/

namespace Sys2Proof.Machine

/-- LOADED, STAGED and HANDOVER records with status AT_RISK or higher (R101, R171). -/
def Record.atRiskAboard (r : Record) : Bool := !r.isClosed && decide (1 ≤ r.status.ordinal)

/-- The level of a condition (R171). -/
def State.level (s : State) (c : Condition) : Bool :=
  match c with
  | .newBreak => s.au.attention.contains .recordBreak
  | .atRiskPresent => s.ct.slots.toList.any fun x => x.any Record.atRiskAboard
  | .blindZone => [1, 2, 3, 4, 5].any fun z => (s.zoneAt z).sensing == .blind && !(s.zoneMembers z).isEmpty
  | .doorDwell => [1, 2, 3, 4].any fun c => s.compPresent c && (s.compAt c).dwellFlag
  | .timebaseDegraded => s.tb.degraded
  | .probeFault => s.ps.probes.toList.any fun p => p.state == .faulted
  | .handoverPending => s.ct.slots.toList.any fun x => x.any Record.isHandover
  | .tableNearFull => decide (s.freeSlots ≤ nearFull)

/-- A pulse starts or restarts: it awaits the end of this start and of no earlier one (R173; assumption log entry 8). -/
def Line.startPulse (l : Line) : Line := { l with pulseEnd := some l.pulses, pulses := l.pulses + 1 }

/-- One line's evaluation against its condition's level: the reference takes the level; in RUN a false-to-true change
sets the latch of a LATCH line and starts or restarts the pulse of a PULSE line; outside RUN it drives nothing (R172,
R173, R176). -/
def Line.evaluate (run : Bool) (level : Bool) (l : Line) : Line :=
  if level = l.reference then l
  else
    let l := { l with reference := level }
    if run && level then
      match l.mode with
      | .follow => l
      | .latch => { l with latch := true }
      | .pulse => l.startPulse
    else l

/-- Both lines are evaluated after a step (R172). -/
def State.evaluateLines (s : State) : State :=
  { s with
    au := { s.au with lines := s.au.lines.mapIdx fun _ l => l.evaluate s.running (s.level l.condition) } }

/-- A line set afresh: reference at the condition's level, latch clear, no pulse (R172, R174, R176). -/
def Line.refresh (level : Bool) (l : Line) : Line := { l with reference := level, latch := false, pulseEnd := none }

/-- Both lines set afresh, at a pin reset and a main return (R176). -/
def State.refreshLines (s : State) : State :=
  { s with au := { s.au with lines := s.au.lines.mapIdx fun _ l => l.refresh (s.level l.condition) } }

/-- The lines at backup entry: latch cleared, pulse stopped; the reference goes on being evaluated (R176). -/
def Line.backupEntry (l : Line) : Line := { l with latch := false, pulseEnd := none }

/-! ### Output pins -/

/-- ATTN is driven low in RUN while the attention set is not empty (R169). -/
def State.attnLow (s : State) : Bool := s.running && !s.au.attention.isEmpty

/-- Whether an alert line is high (R173, R176). -/
def State.alertHigh (s : State) (line : Nat) : Bool :=
  s.running &&
    match s.au.lines[line]? with
    | none => false
    | some l =>
      match l.mode with
      | .follow => s.level l.condition
      | .latch => l.latch
      | .pulse => l.pulseEnd.isSome

/-- PEXC is on whenever the part is in RUN (R18). -/
def State.pexcOn (s : State) : Bool := s.running

end Sys2Proof.Machine
end

