-- ==== Sys2Proof/Machine/Operands.lean ====
section
/-! DEFINITION. How an event and a command transaction reach the part: the link's state, the frame checks (R177,
R178, R180, R183), the shared shape of a command (its checks in order, then its effect), and the checks several
commands share (R76, R77, R86). -/

namespace Sys2Proof.Machine

/-- An event taken where its condition holds, followed by the evaluation of the lines (R172); an event whose condition
does not hold is not taken (log entry 4). -/
def State.event (holds : Bool) (f : State → State) (s : State) : State := if holds then (f s).evaluateLines else s

/-! ### The link (R177, R178, R180, R183) -/

/-- The link receives transactions in RUN with RESETN high (R177). -/
def State.linkLive (s : State) : Bool := s.running && !s.tb.resetLow

/-- SDO is at high impedance while CSN is high and while the link is inert, and shifts out bits otherwise. Over the rest
of a transaction that it ignores R177 leaves SDO open: the free value (assumption log entry 15). -/
def State.sdoFloats (csnLow : Bool) (s : State) : Bool :=
  !csnLow || !s.linkLive || (s.li.waitRise && (Config.ignoredSdo s.freeCount).isNone)

/-- The end of a transaction that the link ignores until CSN rises; what SDO did is free (R177; assumption log entry
15). -/
def State.endIgnored (s : State) : State :=
  { s with
    li := { s.li with receive := [], waitRise := false, sdo := Config.ignoredSdo s.freeCount }
    freeCount := s.freeCount + 1 }

/-- SDO during a command transaction of `whole` bytes: FFh throughout (R177). -/
def commandSdo (whole : Nat) : Option (List Byte) := some (List.replicate whole 0xFF)

/-- A command frame that ends while a command executes: discarded unexamined, the overrun flag set (R183). -/
def State.discardFrame (whole : Nat) (s : State) : State :=
  { s with li := { s.li with receive := [], overrun := true, sdo := commandSdo whole } }

/-- A command transaction is taken: the held response goes, the overrun flag is cleared (R180, R182). -/
def State.takeTransaction (whole : Nat) (s : State) : State :=
  { s with li := { s.li with receive := [], response := none, overrun := false, sdo := commandSdo whole } }

/-- The pending flag is set, with the answer the command's response will carry (R180). -/
def State.setExecuting (r : Reply) (s : State) : State := { s with li := { s.li with executing := some r } }

/-- The first frame check: whole bytes 2 + L, L at most 40, no bits beyond; a single byte fails it (R178). -/
def frameFormed (fr : Frame) : Bool :=
  decide (fr.whole = 2 + fr.len.toNat) && decide (fr.len.toNat ≤ payloadMax) && decide (fr.stray = 0)

/-- The frame checks in their order: what they refuse with, or none (R178). -/
def frameRefusal? (code : Byte) (fr : Frame) : Option ResultCode :=
  if !frameFormed fr then some .framing
  else
    match payloadLength? code with
    | none => some .unknownCommand
    | some n => if fr.len.toNat = n then none else some .framing

/-- A refusal carries its code and no payload (R184). -/
def refusal (c : ResultCode) : Reply := ⟨c, []⟩

/-- OK with a payload. -/
def okReply (payload : List Byte) : Reply := ⟨.ok, payload⟩

/-- A command transaction at CSN rise. Ignored while the link is inert or waits for CSN to rise; discarded while a
command executes; otherwise taken, its frame checked, and its body carried out as one step (R177, R178, R180, R183). -/
def State.receiveCommand (code : Byte) (fr : Frame) (body : State → State × Reply) (s : State) : State :=
  if !s.linkLive then s
  else if s.li.waitRise then s.endIgnored
  else if s.li.executing.isSome then s.discardFrame fr.whole
  else
    let s1 := s.takeTransaction fr.whole
    match frameRefusal? code fr with
    | some c => s1.setExecuting (refusal c)
    | none => ((body s1).1.setExecuting (body s1).2).evaluateLines

/-! ### Checks in order, then the effect (R84) -/

/-- The code of the first check that fails; each entry says whether its check fails. -/
def firstRefusal : List (Bool × ResultCode) → Option ResultCode
  | [] => none
  | (fails, code) :: rest => if fails then some code else firstRefusal rest

/-- A command: refused with the first check that fails, changing nothing; otherwise its effect (R84). -/
def command (checks : State → List (Bool × ResultCode)) (effect : State → State × Reply) (s : State) : State × Reply :=
  match firstRefusal (checks s) with
  | some c => (s, refusal c)
  | none => effect s

/-! ### Shared checks -/

/-- STALE_HANDLE: the slot is FREE, or its record has another ID (R76). -/
def State.staleHandle (s : State) (h : Nat) (id : Word32) : Bool := !(s.record? h).any fun r => r.id == id

/-- The first two checks of a command addressed to a record, with the range of its other parameters (R76). -/
def State.addressChecks (s : State) (h : Byte) (id : Word32) (otherOutOfRange : Bool) : List (Bool × ResultCode) :=
  [(decide (47 < h.toNat) || otherOutOfRange, .range), (s.staleHandle h.toNat id, .staleHandle)]

/-- WRONG_STATE: the record is not in a state the command accepts. -/
def State.wrongState (s : State) (h : Byte) (accepts : Record → Bool) : Bool := !(s.record? h.toNat).any accepts

/-- The place of the record in a slot (R70); 0 for a FREE slot. -/
def State.placeOf (s : State) (h : Nat) : Nat :=
  match s.record? h with
  | none => 0
  | some r => r.place

/-- A door check: the compartment's interlock is on and its door state is closed (R86). -/
def State.doorShut (s : State) (c : Nat) : Bool := (s.compAt c).interlock && !(s.compAt c).doorOpen

/-- ZONE_FULL for a compartment and for the stage (R82). -/
def State.compFull (s : State) (c : Nat) : Bool := decide ((s.compAt c).capacity ≤ (s.membersOf c).length)
def State.stageFull (s : State) : Bool := decide (stageLimit ≤ s.ct.stage.length)

/-- The view of the record in a slot, as a payload (R157). -/
def State.viewOf (s : State) (h : Nat) : List Byte :=
  match s.record? h with
  | none => []
  | some r => recordView h r

end Sys2Proof.Machine
end

