-- ==== Sys2Proof/Machine/Power.lean ====
section
/-! DEFINITION. Power and reset events: COLD_START, VBAK_LOSS, VBAK_RESTORE, VSUP_LOSS, VSUP_RETURN, RESETN_LOW,
PIN_RESET (sections 1.5 to 1.8 and the reset rules of each chapter). -/

namespace Sys2Proof.Machine

/-- The part without any supply: the state held by every block is gone (R10, R14). Its fields stand at values nothing
reads before the next cold start (log entry 2). -/
def State.unpowered (s : State) : State :=
  { State.reset with
    tb := { State.reset.tb with power := .off, vbak := false }
    au := { attention := [], lines := s.au.lines.mapIdx fun _ l => .initial l.pulses }
    freeCount := s.freeCount
    pending := s.pending }

/-! ### Cold start (R15, R16) -/

/-- The number of present compartments latched from the straps (R16). -/
def strapCount (zsel1 zsel0 : Bool) : Nat := 1 + (2 * zsel1.toNat + zsel0.toNat)

/-- The time base at cold start (R4, R15, R16). -/
def coldTimeBase (inp : ColdInputs) : TimeBase where
  power := if inp.vsup then .run else .backup
  vbak := inp.vbak
  resetLow := inp.vsup && inp.resetLow
  trip := 0
  trim := factoryTrim
  degraded := !inp.crystalFound
  secondOnCrystal := inp.crystalFound
  retryOpen := false
  lastDegraded := if inp.crystalFound then none else some 0
  interval := none
  backupEntry := if inp.vsup then none else some 0
  powerReturn := none
  outage := 0
  presentCount := strapCount inp.zsel1 inp.zsel0
  scanDue := false
  tickDue := false

/-- A compartment at cold start: R38's values, the door sampled in RUN where the compartment is present (R46). -/
def coldCompartment (inp : ColdInputs) (i : Nat) (level : Bool) : Compartment :=
  let sampled := inp.vsup && decide (i < strapCount inp.zsel1 inp.zsel0) && level
  { Compartment.initial with doorLevel := sampled, doorOpen := sampled }

/-- The whole part at cold start (R15): every block takes its initial values; the model's own fields stand (log entries 8
and 9). -/
def State.coldStart (inp : ColdInputs) (s : State) : State :=
  let base : State :=
    { State.reset with
      tb := coldTimeBase inp
      zm :=
        { zones := Vector.replicate 5 Zone.initial
          comps := inp.doors.mapIdx (coldCompartment inp)
          defrostLevel := inp.vsup && inp.defrost
          defrostDebouncing := false
          defrostActive := inp.vsup && inp.defrost }
      au := { attention := [.coldStart], lines := s.au.lines.mapIdx fun _ l => .initial l.pulses }
      li := { Link.initial with waitRise := inp.vsup && inp.csnLow }
      freeCount := s.freeCount
      pending := s.pending }
  base.refreshLines

/-- COLD_START. With neither supply no power is applied and nothing happens. -/
def execColdStart (inp : ColdInputs) (s : State) : Host.Outcome State Fault Refusal :=
  .next (if inp.vsup || inp.vbak then s.coldStart inp else s)

/-! ### Supplies -/

/-- VBAK_LOSS: in BACKUP the last supply is gone; in RUN the part goes on from VSUP without backup (R14). -/
def execVbakLoss (s : State) : Host.Outcome State Fault Refusal :=
  match s.tb.power with
  | .off => .next s
  | .run => .next { s with tb := { s.tb with vbak := false } }
  | .backup => .next s.unpowered

/-- VBAK_RESTORE: in RUN a later VSUP loss enters BACKUP again (R14). -/
def execVbakRestore (s : State) : Host.Outcome State Fault Refusal :=
  match s.tb.power with
  | .off => .next s
  | .run => .next { s with tb := { s.tb with vbak := true } }
  | .backup => .next s

/-- Backup entry as each block takes it (R10, R35, R59, R145, R176, R177, R182). -/
def State.enterBackup (s : State) : State :=
  { s with
    tb := { s.tb with power := .backup, resetLow := false, backupEntry := some s.now, scanDue := false }
    ps := { gateOpen := false, probes := s.ps.probes.mapIdx fun _ p => { p with edges := none } }
    zm :=
      { zones := s.zm.zones.mapIdx fun _ z => { z with sensing := .blind }
        comps := s.zm.comps.mapIdx fun _ c => c.backupEntry s.now
        defrostLevel := s.zm.defrostLevel
        defrostDebouncing := false
        defrostActive := false }
    hu := { s.hu with parts := [] }
    au := { s.au with lines := s.au.lines.mapIdx fun _ l => l.backupEntry }
    li := { s.li with receive := [], waitRise := false, sdo := none } }

/-- VSUP_LOSS: in RUN the part enters BACKUP, or loses all power where VBAK is absent (R10). -/
def execVsupLoss (s : State) : Host.Outcome State Fault Refusal :=
  match s.tb.power with
  | .off => .next s
  | .backup => .next s
  | .run => .next (if s.tb.vbak then s.enterBackup.evaluateLines else s.unpowered)

/-! ### Pin reset -/

/-- A crystal retry: a DEGRADED time base opens a window of its own, abandoning one already open (R3). -/
def TimeBase.retry (tb : TimeBase) : TimeBase := { tb with retryOpen := tb.degraded }

/-- The pin reset as the probe scanner, the zone monitor, the hand-off unit and the link take it (R36, R60, R145,
R182); the time base's retry and the lines come with the event itself. `csnLow`: CSN is low as the link becomes live. -/
def State.resetBlocks (csnLow : Bool) (s : State) : State :=
  { s with
    ps := { s.ps with probes := s.ps.probes.mapIdx fun _ p => p.restart }
    zm := { s.zm with zones := s.zm.zones.mapIdx fun _ z => z.pinReset s.now }
    hu := { s.hu with parts := [] }
    li := { Link.initial with waitRise := csnLow } }

/-- RESETN_LOW: in RUN the link becomes inert, a transaction in progress is discarded and SDO goes to high impedance
(R17, R177). -/
def execResetnLow (s : State) : Host.Outcome State Fault Refusal :=
  .next (if s.running then
      { s with
        tb := { s.tb with resetLow := true }
        li := { s.li with receive := [], waitRise := false, sdo := none } }
    else s)

/-- The pin reset (R17, R176). -/
def State.pinReset (csnLow : Bool) (s : State) : State :=
  let s1 := { s with tb := { s.tb.retry with resetLow := false } }
  (s1.resetBlocks csnLow).refreshLines

/-- RESETN rises after a short low pulse that is not taken as a pin reset: the link becomes live again, a transaction
under way ignored to its end (R17, R177). -/
def State.resetnRise (csnLow : Bool) (s : State) : State :=
  { s with tb := { s.tb with resetLow := false }, li := { s.li with waitRise := csnLow } }

/-- PIN_RESET: RESETN rises in RUN. After at least 10 µs low it is a pin reset; after a shorter pulse it may or may
not be, which the free value decides (R17; log entry 3). -/
def execPinReset (lowMicros : Nat) (csnLow : Bool) (s : State) : Host.Outcome State Fault Refusal :=
  .next (if s.running && s.tb.resetLow then
      if resetPulseMicros ≤ lowMicros then s.pinReset csnLow
      else
        let s1 := { s with freeCount := s.freeCount + 1 }
        if Config.shortPulseTaken s.freeCount then s1.pinReset csnLow else s1.resetnRise csnLow
    else s)

/-! ### Main return (R12, R37, R61, R170, R176) -/

/-- The time base at main return (R12). -/
def returnTimeBase (resetLow : Bool) (tb : TimeBase) : TimeBase :=
  { tb.retry with
    power := .run
    resetLow := resetLow
    powerReturn := some tb.trip
    outage := tb.trip - tb.backupEntry.getD 0 }

/-- A present compartment's door sampled at main return: an open door is a door-open event at the return second
(R61). -/
def returnCompartment (now : Nat) (level : Bool) (c : Compartment) : Compartment :=
  let c1 := { c with doorLevel := level, debouncing := false }
  if level then c1.openDoor now else { c1 with doorOpen := false }

/-- Whether the door at compartment `i + 1` found open loses an unreported opening (R47, R61). -/
def State.returnOverruns (inp : ReturnInputs) (s : State) : Bool :=
  [1, 2, 3, 4].any fun c => s.compPresent c && (inp.doors[c - 1]?).getD false && openOverruns (s.compAt c)

/-- Doors and DEFROST sampled afresh (R53, R61). -/
def State.resample (inp : ReturnInputs) (s : State) : State :=
  let s1 := s.mapPresentComps fun c k => returnCompartment s.now ((inp.doors[c - 1]?).getD false) k
  { s1 with
    zm := { s1.zm with defrostLevel := inp.defrost, defrostDebouncing := false, defrostActive := inp.defrost } }

/-- The VSUP-return event (R12). -/
def State.mainReturn (inp : ReturnInputs) (s : State) : State :=
  let s1 := ({ s with tb := returnTimeBase inp.resetLow s.tb }).raise .powerReturn
  let s2 := s1.resetBlocks inp.csnLow
  let s3 := if s2.returnOverruns inp then s2.raise .doorOverrun else s2
  (s3.resample inp).refreshLines

/-- VSUP_RETURN: in BACKUP the part enters RUN (R12). -/
def execVsupReturn (inp : ReturnInputs) (s : State) : Host.Outcome State Fault Refusal :=
  match s.tb.power with
  | .off => .next s
  | .run => .next s
  | .backup => .next (s.mainReturn inp)

end Sys2Proof.Machine
end

