-- ==== Sys2Proof/Machine/Expiries.lean ====
section
/-! DEFINITION. The expiries at a second event: hold, dwell and allowance expiry (chapter 3), the deadline lapse
(chapter 8). Each has the condition under which it is due now and its effect; `State.takeExpiries` takes all that are
due. -/

namespace Sys2Proof.Machine

/-- A zone HELD with its deadline now (R43). -/
def State.holdDue (zone : Nat) (s : State) : Bool := s.powered && (s.zoneAt zone).sensing == .held s.now

/-- The hold expiry: the zone becomes BLIND, its figures kept (R43). -/
def State.expireHold (zone : Nat) (s : State) : State := s.modifyZone zone fun z => { z with sensing := .blind }

/-- A door still open with its dwell deadline now (R49). -/
def State.dwellDue (c : Nat) (s : State) : Bool :=
  s.powered && s.compPresent c && (s.compAt c).doorOpen && (s.compAt c).dwellDeadline == some s.now

/-- The dwell expiry (R49). -/
def State.expireDwell (c : Nat) (s : State) : State :=
  (s.modifyComp c fun k => { k with dwellFlag := true, dwellDeadline := none }).raise .doorDwell

/-- Whether a compartment's allowance expires now (R55). -/
def Compartment.allowanceEnds (now : Nat) (c : Compartment) : Bool :=
  (c.episode.bind Episode.allowance).any fun a => a.expiry == now

/-- A present compartment whose allowance expires now (R55). -/
def State.allowanceDue (c : Nat) (s : State) : Bool :=
  s.powered && s.compPresent c && (s.compAt c).allowanceEnds s.now

/-- The allowance expiry: the allowance ends, the episode goes on (R55). -/
def State.expireAllowance (c : Nat) (s : State) : State :=
  (s.modifyComp c fun k => { k with episode := k.episode.map fun e => { e with allowance := none } }).raise
    .defrostOverrun

/-- A record whose deadline is reached by the second event that began second `now`, later than its freezing (R142,
R5: a capped deadline equal to frozen at is not reached again). -/
def Record.lapses (now : Nat) (r : Record) : Bool :=
  match r.custody with
  | .handover frozenAt deadline => decide (deadline = now ∧ frozenAt < deadline)
  | .loaded _ _ => false
  | .staged _ => false
  | .closed _ => false

/-- A frozen record whose deadline is now (R142). -/
def State.lapseDue (slot : Nat) (s : State) : Bool := s.powered && (s.record? slot).any (Record.lapses s.now)

/-- The hand-off-lapsed mark set on the record in a slot (R71, R142). -/
def State.markLapsed (h : Nat) (s : State) : State :=
  match s.record? h with
  | none => s
  | some r => s.setRecord h (some { r with marks := { r.marks with lapsed := true } })

/-- The deadline lapse (R142). -/
def State.lapse (h : Nat) (s : State) : State := ((s.thaw h s.now .lapse).markLapsed h).raise .handoverLapsed

/-- Takes, for each of a list of numbers in turn, what is due for it. -/
def State.takeDue (due : Nat → State → Bool) (take : Nat → State → State) (numbers : List Nat) (s : State) : State :=
  numbers.foldl (fun s n => if due n s then take n s else s) s

/-- The numbers of all slots; irreducible, so that no proof unrolls 48 lapses by accident. -/
@[irreducible] def everySlot : List Nat := List.range 48

/-- Every expiry of the present second that has not been taken yet: holds, dwells, allowances, lapses. STATUS shows the
expiries of a second with the advance of the clock (R154), and a second does not end before its expiries are taken
(assumption log entry 5). -/
def State.takeExpiries (s : State) : State :=
  let s1 := s.takeDue State.holdDue State.expireHold [1, 2, 3, 4, 5]
  let s2 := s1.takeDue State.dwellDue State.expireDwell [1, 2, 3, 4]
  let s3 := s2.takeDue State.allowanceDue State.expireAllowance [1, 2, 3, 4]
  s3.takeDue State.lapseDue State.lapse everySlot

end Sys2Proof.Machine
end

