-- ==== Sys2Proof/Machine/TimeEvents.lean ====
section
/-! DEFINITION. Events of the time base, the probe gate and the tick pass: RETRY_WINDOW_END, CRYSTAL_STOP,
SECOND_EVENT, SCAN, PROBE_RISING_EDGE, GATE_CLOSE, TICK, TICK_PASS_VISIT (chapters 1, 2, 3 and 6). -/

namespace Sys2Proof.Machine

/-- The end of a retry window (R3, R4): with edges found the time base is NORMAL from here, the second in progress
finished on the RC oscillator; without, TIMEBASE_LOST is raised. -/
def State.endRetry (edgesFound : Bool) (s : State) : State :=
  if edgesFound then { s with tb := { s.tb with retryOpen := false, degraded := false, secondOnCrystal := false } }
  else ({ s with tb := { s.tb with retryOpen := false } }).raise .timebaseLost

/-- RETRY_WINDOW_END: the window open is decided (R3); it runs on in BACKUP. -/
def execRetryWindowEnd (edgesFound : Bool) (s : State) : Host.Outcome State Fault Refusal :=
  .next (s.event (s.powered && s.tb.retryOpen) (State.endRetry edgesFound))

/-- The crystal stop (R2, R4). -/
def State.stopCrystal (s : State) : State :=
  ({ s with
      tb := { s.tb with degraded := true, secondOnCrystal := false, lastDegraded := some s.now } }).raise .timebaseLost

/-- CRYSTAL_STOP: taken while NORMAL, in RUN and in BACKUP (R2). -/
def execCrystalStop (s : State) : Host.Outcome State Fault Refusal :=
  .next (s.event (s.powered && !s.tb.degraded) State.stopCrystal)

/-- The trim after a second over which `rcPeriods` RC periods were counted: replaced at the end of a full crystal
second by a count in range, kept otherwise (R1). -/
def refreshedTrim (tb : TimeBase) (rcPeriods : Nat) : Nat :=
  if tb.secondOnCrystal && decide (trimLow ≤ rcPeriods ∧ rcPeriods ≤ trimHigh) then rcPeriods else tb.trim

/-- The second event on the time base (R1, R4 to R7): the clock advances and saturates; the new second is a scan in
RUN if even, a tick if a multiple of the fixed interval, unless the clock no longer advances. -/
def TimeBase.second (rcPeriods : Nat) (tb : TimeBase) : TimeBase :=
  let trip := satAdd32 tb.trip 1
  let advanced := decide (tb.trip < maxU32)
  { tb with
    trip := trip
    trim := refreshedTrim tb rcPeriods
    secondOnCrystal := !tb.degraded
    lastDegraded := if tb.degraded then some trip else tb.lastDegraded
    scanDue := advanced && tb.power == .run && decide (trip % 2 = 0)
    tickDue := advanced && tb.interval.any fun i => decide (trip % i = 0) }

/-- The second event: an expiry of the second that ends and is still to be taken is taken first, so that none is lost;
then the clock advances (R5, R154; assumption log entry 5). -/
def State.beginSecond (rcPeriods : Nat) (s : State) : State :=
  { s.takeExpiries with tb := s.tb.second rcPeriods }

/-- SECOND_EVENT: in RUN and in BACKUP (R5, R11). -/
def execSecondEvent (rcPeriods : Nat) (s : State) : Host.Outcome State Fault Refusal :=
  .next (s.event s.powered (State.beginSecond rcPeriods))

/-- SCAN: the gate opens at the second event that is a scan, in RUN (R6, R22). -/
def execScan (s : State) : Host.Outcome State Fault Refusal :=
  .next (s.event (s.running && s.tb.scanDue) fun s =>
    { s with
      tb := { s.tb with scanDue := false }
      ps := { gateOpen := true, probes := s.ps.probes.mapIdx fun _ p => p.openGate } })

/-- PROBE_RISING_EDGE: counted by a probe that counts in the open gate (R22). -/
def execProbeRisingEdge (probe : Nat) (s : State) : Host.Outcome State Fault Refusal :=
  .next (s.event (s.running && s.ps.gateOpen) (State.modifyProbe probe Probe.edge))

/-- The gate-close of the scanner: each counting probe makes its reading, and PROBE_FAULT is raised if one went from
ACTIVE to FAULTED (R23, R32). -/
def State.closeGate (s : State) : State :=
  let after := s.ps.probes.mapIdx fun _ p => p.closeGate
  let s1 := { s with ps := { gateOpen := false, probes := after } }
  if s.ps.probes.toList.any fun p => probeFailed p p.closeGate then s1.raise .probeFault else s1

/-- The gate-close of the zone monitor: every zone that can be named takes its hand-over set (R34, R41, R42). -/
def State.formZones (s : State) : State :=
  { s with
    zm :=
      { s.zm with
        zones :=
          s.zm.zones.mapIdx fun i z =>
            if s.zonePresent (i + 1) then z.gateClose s.now (handOverSet s.ps.probes.toList (i + 1)) else z } }

/-- GATE_CLOSE: one event across the scanner and the zone monitor (R23, R41). -/
def execGateClose (s : State) : Host.Outcome State Fault Refusal :=
  .next (s.event (s.running && s.ps.gateOpen) fun s => s.closeGate.formZones)

/-- TICK: the engine starts a pass with the tick second and next slot 0 (R7, R116). -/
def execTick (s : State) : Host.Outcome State Fault Refusal :=
  .next (s.event (s.powered && s.tb.tickDue) fun s =>
    { s with tb := { s.tb with tickDue := false }, ae := some ⟨s.now, 0⟩ })

/-- The next slot of the pass, which ends after slot 47 (R116, R117). -/
def Pass.advance (p : Pass) : Option Pass := if p.next + 1 < 48 then some { p with next := p.next + 1 } else none

/-- One visit: a LOADED or STAGED record is settled at the tick second; the pass moves on (R117). -/
def State.visit (p : Pass) (s : State) : State := { s.settle p.next p.tick with ae := p.advance }

/-- TICK_PASS_VISIT: the pass in flight makes its next visit, in RUN and in BACKUP (R117). -/
def execTickPassVisit (s : State) : Host.Outcome State Fault Refusal :=
  match s.ae with
  | none => .next s
  | some p => .next (s.event s.powered (State.visit p))

end Sys2Proof.Machine
end

