-- ==== Sys2Proof/Machine/ZoneEvents.lean ====
section
/-! DEFINITION. Events of zones, doors, defrost, hand-off deadlines and alert pulses: HOLD_EXPIRY,
DOOR_INPUT_CHANGE, DOOR_OPEN, DOOR_CLOSE, DWELL_EXPIRY, DEFROST_INPUT_CHANGE, DEFROST_RISE, DEFROST_FALL,
ALLOWANCE_EXPIRY, DEADLINE_LAPSE, PULSE_END (chapters 3, 8 and 10). -/

namespace Sys2Proof.Machine

/-- HOLD_EXPIRY (R43). -/
def execHoldExpiry (zone : Nat) (s : State) : Host.Outcome State Fault Refusal :=
  .next (s.event (s.holdDue zone) (State.expireHold zone))

/-! ### Doors -/

/-- DOOR_INPUT_CHANGE: a level change at the door of a present compartment in RUN; the 50 ms start again (R46). -/
def execDoorInputChange (c : Nat) (level : Bool) (s : State) : Host.Outcome State Fault Refusal :=
  .next (s.event (s.running && s.compPresent c && (s.compAt c).doorLevel != level)
    (State.modifyComp c fun k => { k with doorLevel := level, debouncing := true }))

/-- A door has been stable for 50 ms at a level other than its door state (R46). -/
def State.doorStable (s : State) (c : Nat) (level : Bool) : Bool :=
  s.running && s.compPresent c && (s.compAt c).debouncing && (s.compAt c).doorLevel == level &&
    (s.compAt c).doorOpen != level

/-- The door-open event (R47). -/
def State.openDoor (c : Nat) (s : State) : State :=
  let s1 := if openOverruns (s.compAt c) then s.raise .doorOverrun else s
  s1.modifyComp c fun k => { k with debouncing := false }.openDoor s.now

/-- DOOR_OPEN: after a stable 50 ms at the open level, with the door state closed (R46, R47). -/
def execDoorOpen (c : Nat) (s : State) : Host.Outcome State Fault Refusal :=
  .next (s.event (s.doorStable c true) (State.openDoor c))

/-- DOOR_CLOSE: after a stable 50 ms at the closed level, with the door state open (R46, R48). -/
def execDoorClose (c : Nat) (s : State) : Host.Outcome State Fault Refusal :=
  .next (s.event (s.doorStable c false) fun s =>
    s.modifyComp c fun k => { k with debouncing := false }.closeDoor s.now)

/-- DWELL_EXPIRY (R49). -/
def execDwellExpiry (c : Nat) (s : State) : Host.Outcome State Fault Refusal :=
  .next (s.event (s.dwellDue c) (State.expireDwell c))

/-! ### Defrost -/

/-- DEFROST_INPUT_CHANGE: a level change on DEFROST in RUN; its 50 ms start again (R53). -/
def execDefrostInputChange (level : Bool) (s : State) : Host.Outcome State Fault Refusal :=
  .next (s.event (s.running && s.zm.defrostLevel != level) fun s =>
    { s with zm := { s.zm with defrostLevel := level, defrostDebouncing := true } })

/-- DEFROST has been stable for 50 ms at a level other than the defrost state (R53). -/
def State.defrostStable (s : State) (level : Bool) : Bool :=
  s.running && s.zm.defrostDebouncing && s.zm.defrostLevel == level && s.zm.defrostActive != level

/-- The debounced defrost state takes a level. -/
def State.setDefrost (level : Bool) (s : State) : State :=
  { s with zm := { s.zm with defrostDebouncing := false, defrostActive := level } }

/-- Whether a compartment of the mask has its allowance refused by a rise now (R54). -/
def State.refusesAllowance (s : State) : Bool :=
  [1, 2, 3, 4].any fun c => s.compPresent c && (s.compAt c).inMask && !(s.compAt c).grants s.now

/-- The DEFROST-rise event: an episode starts for each compartment in the mask (R53, R54). -/
def State.defrostRise (s : State) : State :=
  let s1 := (s.setDefrost true).mapPresentComps fun _ k => if k.inMask then k.startEpisode s.now else k
  if s.refusesAllowance then s1.raise .defrostOverrun else s1

/-- DEFROST_RISE (R53). -/
def execDefrostRise (s : State) : Host.Outcome State Fault Refusal :=
  .next (s.event (s.defrostStable true) State.defrostRise)

/-- DEFROST_FALL: every episode in progress ends (R53, R56). -/
def execDefrostFall (s : State) : Host.Outcome State Fault Refusal :=
  .next (s.event (s.defrostStable false) fun s =>
    (s.setDefrost false).mapPresentComps fun _ k => k.endEpisode s.now)

/-- ALLOWANCE_EXPIRY (R55). -/
def execAllowanceExpiry (c : Nat) (s : State) : Host.Outcome State Fault Refusal :=
  .next (s.event (s.allowanceDue c) (State.expireAllowance c))

/-! ### Hand-off deadlines and pulses -/

/-- DEADLINE_LAPSE: in RUN and in BACKUP (R142, R144). -/
def execDeadlineLapse (slot : Nat) (s : State) : Host.Outcome State Fault Refusal :=
  .next (s.event (s.lapseDue slot) (State.lapse slot))

/-- Whether a pulse runs that awaits the end of its line's start `number`; the end of a start that a later change has
overtaken, or whose pulse was stopped, is awaited no more (R173; assumption log entry 8). -/
def Line.awaitsEnd (number : Nat) (l : Line) : Bool := l.pulseEnd == some number

/-- PULSE_END, 1 s after a start of a line's pulse: a pulse that awaits the end of this start ends (R173). -/
def execPulseEnd (start : PulseStart) (s : State) : Host.Outcome State Fault Refusal :=
  .next (s.event (s.running && (s.au.lines[start.line]?).any (Line.awaitsEnd start.number))
    (State.modifyLine start.line fun l => { l with pulseEnd := none }))

end Sys2Proof.Machine
end

