-- ==== Sys2Proof/Machine/LinkEvents.lean ====
section
/-! DEFINITION. Events of the link: FRAME_DISCARDED, SHORT_TRANSACTION, RESPONSE_READ, RESPONSE_READY,
UNKNOWN_COMMAND (chapter 11). -/

namespace Sys2Proof.Machine

/-- FRAME_DISCARDED: a command transaction of `whole` bytes ends while a command is executing (R183). -/
def execFrameDiscarded (whole : Nat) (s : State) : Host.Outcome State Fault Refusal :=
  .next (if !s.linkLive then s
    else if s.li.waitRise then s.endIgnored
    else if s.li.executing.isSome then s.discardFrame whole
    else s)

/-- SHORT_TRANSACTION: fewer than 8 bits; ignored, SDO having shifted out no whole byte (R177). -/
def execShortTransaction (_bits : Nat) (s : State) : Host.Outcome State Fault Refusal :=
  .next (if !s.linkLive then s
    else if s.li.waitRise then s.endIgnored
    else { s with li := { s.li with sdo := some [] } })

/-- The bytes of a response from its result code on (R181). -/
def responseBytes (code : ResultCode) (flags : Byte) (payload : List Byte) : List Byte :=
  [code.number, flags, byte payload.length] ++ payload

/-- What a response read returns, by the link's state at the fall of CSN (R181). -/
def State.readBytes (s : State) : List Byte :=
  match s.li.executing, s.li.response with
  | some _, _ => responseBytes .pending (responseFlags s.li.overrun !s.au.attention.isEmpty) []
  | none, some r => responseBytes r.code r.flags r.payload
  | none, none => responseBytes .noResponse (responseFlags false !s.au.attention.isEmpty) []

/-- What SDO shifts out over a read of `n` bytes: FFh during the first, then the response, then 00h (R177, R181). -/
def shiftedOut (n : Nat) (response : List Byte) : List Byte := ((0xFF :: response) ++ List.replicate n 0x00).take n

/-- RESPONSE_READ: `bytes` whole bytes are clocked, the first of them 00h (R177, R181). -/
def execResponseRead (bytes : Nat) (s : State) : Host.Outcome State Fault Refusal :=
  .next (if !s.linkLive then s
    else if s.li.waitRise then s.endIgnored
    else { s with li := { s.li with receive := [], sdo := some (shiftedOut bytes s.readBytes) } })

/-- The response to the answer `r` formed in the holding buffer, the pending flag cleared (R180). -/
def State.formResponse (r : Reply) (s : State) : State :=
  { s with
    li :=
      { s.li with
        executing := none
        response := some ⟨r.code, responseFlags s.li.overrun !s.au.attention.isEmpty, r.payload⟩ } }

/-- RESPONSE_READY: the response is formed; one that comes due in BACKUP is not, the execution alone ends (R180, R182;
assumption log entry 16). -/
def execResponseReady (s : State) : Host.Outcome State Fault Refusal :=
  match s.li.executing, s.tb.power with
  | none, _ => .next s
  | some r, .run => .next (s.formResponse r)
  | some _, .backup => .next { s with li := { s.li with executing := none } }
  | some _, .off => .next s

/-- UNKNOWN_COMMAND: a command transaction with an unlisted code (R178). -/
def execUnknownCommand (code : Byte) (fr : Frame) (s : State) : Host.Outcome State Fault Refusal :=
  .next (s.receiveCommand code fr fun s => (s, refusal .unknownCommand))

end Sys2Proof.Machine
end

