-- ==== Sys2Proof/Machine/Queries.lean ====
section
/-! DEFINITION. The queries and ATTENTION: STATUS, ATTENTION, FIND, VIEW, SURVEY, ZONE, DOOR, PROBE, PROFILE
(chapter 9; R168). -/

namespace Sys2Proof.Machine

/-- STATUS (R165). It shows the expiries of the present second in the same order as the advance of the clock: one not
taken yet is taken before it (R154; assumption log entry 5). -/
def execStatus (fr : Frame) (s : State) : Host.Outcome State Fault Refusal :=
  .next (s.receiveCommand 0x01 fr fun s => (s.takeExpiries, okReply s.takeExpiries.statusPayload))

/-- ATTENTION: returns the attention mask and empties the set (R168). -/
def execAttention (fr : Frame) (s : State) : Host.Outcome State Fault Refusal :=
  .next (s.receiveCommand 0x02 fr fun s =>
    ({ s with au := { s.au with attention := [] } }, okReply (bytes16 (attentionMask s.au.attention))))

/-- FIND (R155). -/
def execFind (fr : Frame) (id : Word32) (s : State) : Host.Outcome State Fault Refusal :=
  .next (s.receiveCommand 0x03 fr fun s =>
    match s.findId? id with
    | none => (s, refusal .notFound)
    | some h => (s, okReply [byte h]))

/-- VIEW (R156). -/
def execView (fr : Frame) (handle : Byte) (s : State) : Host.Outcome State Fault Refusal :=
  .next (s.receiveCommand 0x04 fr (command
    (fun s => [(decide (47 < handle.toNat), .range), ((s.record? handle.toNat).isNone, .staleHandle)])
    (fun s => (s, okReply (s.viewOf handle.toNat)))))

/-- SURVEY (R158, R159). -/
def execSurvey (fr : Frame) (field cond : Byte) (value : Word32) (start : Byte) (s : State) :
    Host.Outcome State Fault Refusal :=
  .next (s.receiveCommand 0x05 fr (command
    (fun _ => [(decide (8 < field.toNat) || decide (3 < cond.toNat) || decide (47 < start.toNat), .range)])
    (fun s => (s, okReply (s.surveyPayload field.toNat cond.toNat value.toNat start.toNat)))))

/-- ZONE (R161). -/
def execZone (fr : Frame) (z : Byte) (s : State) : Host.Outcome State Fault Refusal :=
  .next (s.receiveCommand 0x06 fr (command
    (fun s => [(!s.zonePresent z.toNat, .range)])
    (fun s => (s, okReply (s.zonePayload z.toNat)))))

/-- The opening reported and the overrun mark cleared, as DOOR leaves them (R50). -/
def Compartment.reportDoor (c : Compartment) : Compartment :=
  { c with opening := c.opening.map fun o => { o with reported := true }, overrun := false }

/-- DOOR: returns the opening record and marks, then marks the opening reported (R50, R162). -/
def execDoor (fr : Frame) (c : Byte) (s : State) : Host.Outcome State Fault Refusal :=
  .next (s.receiveCommand 0x07 fr (command
    (fun s => [(!s.compPresent c.toNat, .range)])
    (fun s => (s.modifyComp c.toNat Compartment.reportDoor, okReply (s.doorPayload c.toNat)))))

/-- PROBE (R163). -/
def execProbe (fr : Frame) (p : Byte) (s : State) : Host.Outcome State Fault Refusal :=
  .next (s.receiveCommand 0x08 fr (command
    (fun _ => [(decide (7 < p.toNat), .range)])
    (fun s => (s, okReply (s.probePayload p.toNat)))))

/-- PROFILE (R69, R164). -/
def execProfile (fr : Frame) (i : Byte) (s : State) : Host.Outcome State Fault Refusal :=
  .next (s.receiveCommand 0x09 fr (command
    (fun _ => [(decide (7 < i.toNat), .range)])
    (fun s => (s, okReply (s.profilePayload i.toNat)))))

end Sys2Proof.Machine
end

