-- ==== Sys2Proof/Machine/Settings.lean ====
section
/-! DEFINITION. The settings commands: FIX_TICK, SET_PROBE, SET_ZONE, SET_DEFROST_MASK, SET_HANDOVER, SET_ALERT,
ACK_ALERT, DEFINE_PROFILE, CLEAR_PROFILE (chapters 1 to 4, 8 and 10). -/

namespace Sys2Proof.Machine

/-- FIX_TICK (R9). -/
def execFixTick (fr : Frame) (interval : Byte) (s : State) : Host.Outcome State Fault Refusal :=
  .next (s.receiveCommand 0x10 fr (command
    (fun s => [(s.tb.interval.isSome, .alreadyFixed), (!tickIntervals.contains interval.toNat, .range)])
    (fun s => ({ s with tb := { s.tb with interval := some interval.toNat } }, okReply []))))

/-- A probe configured: its window emptied, S 0, OFF or FILLING, its count of a gate in flight discarded (R20, R21). -/
def Probe.configure (zone zeroCount : Nat) (gain : Int) (p : Probe) : Probe :=
  { p with
    zone := zone
    zeroCount := zeroCount
    gain := gain
    window := []
    rejects := 0
    state := if zone = 0 then .off else .filling
    edges := none }

/-- A gain that SET_PROBE refuses (R20). -/
def gainOutOfRange (k : Int) : Bool := decide (k = 0) || decide (k < -gainLimit) || decide (gainLimit < k)

/-- SET_PROBE (R20, R21). -/
def execSetProbe (fr : Frame) (p z : Byte) (zeroCount gain : Word16) (s : State) : Host.Outcome State Fault Refusal :=
  .next (s.receiveCommand 0x11 fr (command
    (fun s =>
      [(decide (7 < p.toNat) || (z.toNat != 0 && !s.zonePresent z.toNat) || gainOutOfRange gain.toInt, .range)])
    (fun s => (s.modifyProbe p.toNat (Probe.configure z.toNat zeroCount.toNat gain.toInt), okReply []))))

/-- The settings of a compartment that lie outside R38's ranges, with the yes/no field of R179 and the member count
of R39. -/
def compSettingsOutOfRange (capacity interlock dwell raise defrostMax spacing members : Nat) : Bool :=
  decide (capacity < 1) || decide (capacityMax < capacity) || decide (1 < interlock) || decide (dwellMax < dwell) ||
    decide (raiseMax < raise) || decide (defrostMax < defrostMaxLow) || decide (defrostMaxHigh < defrostMax) ||
    decide (spacingMax < spacing) || decide (capacity < members)

/-- SET_ZONE (R39, R40): for zone 5 the lag and hold time alone are checked and stored. -/
def execSetZone (fr : Frame) (z lag : Byte) (hold : Word16) (capacity interlock : Byte) (dwell : Word16) (raise : Byte)
    (defrostMax spacing : Word16) (s : State) : Host.Outcome State Fault Refusal :=
  .next (s.receiveCommand 0x12 fr (command
    (fun s =>
      [(!s.zonePresent z.toNat || decide (lagMax < lag.toNat) || decide (holdMax < hold.toNat) ||
          (z.toNat != 5 &&
            compSettingsOutOfRange capacity.toNat interlock.toNat dwell.toNat raise.toNat defrostMax.toNat
              spacing.toNat (s.membersOf z.toNat).length), .range)])
    (fun s =>
      let s1 := s.modifyZone z.toNat fun x => { x with lag := lag.toNat, hold := hold.toNat }
      (s1.modifyComp z.toNat fun c =>
          { c with
            capacity := capacity.toNat
            interlock := interlock == 1
            dwellLimit := dwell.toNat
            raise := raise.toNat
            defrostMax := defrostMax.toNat
            spacing := spacing.toNat },
        okReply []))))

/-- Whether compartment c is in a mask: bit 0 is compartment 1 (R179). -/
def maskHas (mask : Byte) (c : Nat) : Bool := mask.getLsbD (c - 1)

/-- A mask that names a compartment that is not present, or sets a bit above bit 3 (R52, R179). -/
def State.maskOutOfRange (s : State) (mask : Byte) : Bool :=
  [1, 2, 3, 4, 5, 6, 7, 8].any fun c => maskHas mask c && !s.compPresent c

/-- The mask put in place on a compartment; one removed from it ends its episode (R52, R56). -/
def Compartment.applyMask (now : Nat) (inMask : Bool) (c : Compartment) : Compartment :=
  let c1 := if c.inMask && !inMask then c.endEpisode now else c
  { c1 with inMask := inMask }

/-- SET_DEFROST_MASK (R52). -/
def execSetDefrostMask (fr : Frame) (mask : Byte) (s : State) : Host.Outcome State Fault Refusal :=
  .next (s.receiveCommand 0x13 fr (command
    (fun s => [(s.maskOutOfRange mask, .range)])
    (fun s => (s.mapPresentComps fun c k => k.applyMask s.now (maskHas mask c), okReply []))))

/-- SET_HANDOVER (R134). -/
def execSetHandover (fr : Frame) (window : Word16) (s : State) : Host.Outcome State Fault Refusal :=
  .next (s.receiveCommand 0x14 fr (command
    (fun _ => [(decide (window.toNat < windowLow) || decide (windowHigh < window.toNat), .range)])
    (fun s => ({ s with hu := { s.hu with window := window.toNat } }, okReply []))))

/-- The conditions and modes by number (R171, R174); a number outside is refused before it is read here. -/
def conditionOf (n : Nat) : Condition :=
  match n with
  | 0 => .newBreak
  | 1 => .atRiskPresent
  | 2 => .blindZone
  | 3 => .doorDwell
  | 4 => .timebaseDegraded
  | 5 => .probeFault
  | 6 => .handoverPending
  | _ => .tableNearFull

def modeOf (n : Nat) : Mode :=
  match n with
  | 0 => .follow
  | 1 => .latch
  | _ => .pulse

/-- SET_ALERT (R174). -/
def execSetAlert (fr : Frame) (line cond mode : Byte) (s : State) : Host.Outcome State Fault Refusal :=
  .next (s.receiveCommand 0x15 fr (command
    (fun _ => [(decide (1 < line.toNat) || decide (7 < cond.toNat) || decide (2 < mode.toNat), .range)])
    (fun s =>
      (s.modifyLine line.toNat fun l =>
          { l with condition := conditionOf cond.toNat, mode := modeOf mode.toNat }.refresh
            (s.level (conditionOf cond.toNat)),
        okReply []))))

/-- ACK_ALERT (R175). -/
def execAckAlert (fr : Frame) (line : Byte) (s : State) : Host.Outcome State Fault Refusal :=
  .next (s.receiveCommand 0x16 fr (command
    (fun _ => [(decide (1 < line.toNat), .range)])
    (fun s => (s.modifyLine line.toNat fun l => { l with latch := false }, okReply []))))

/-- DEFINE_PROFILE (R63, R64). -/
def execDefineProfile (fr : Frame) (i : Byte) (upper lower : Word16) (upperBudget lowerBudget blindAllowance : Word32)
    (s : State) : Host.Outcome State Fault Refusal :=
  .next (s.receiveCommand 0x17 fr (command
    (fun s =>
      [(decide (7 < i.toNat) || !limitsValid upper.toInt lower.toInt, .range),
        (decide (0 < (s.profileAt i.toNat).useCount), .inUse)])
    (fun s =>
      (s.modifyProfile i.toNat fun p =>
          { p with
            defined := true
            upper := upper.toInt
            lower := lower.toInt
            upperBudget := upperBudget.toNat
            lowerBudget := lowerBudget.toNat
            blindAllowance := blindAllowance.toNat },
        okReply []))))

/-- CLEAR_PROFILE (R65). -/
def execClearProfile (fr : Frame) (i : Byte) (s : State) : Host.Outcome State Fault Refusal :=
  .next (s.receiveCommand 0x18 fr (command
    (fun s => [(decide (7 < i.toNat), .range), (decide (0 < (s.profileAt i.toNat).useCount), .inUse)])
    (fun s =>
      (s.modifyProfile i.toNat fun p => { Profile.undefined with useCount := p.useCount }, okReply []))))

end Sys2Proof.Machine
end

