-- ==== Sys2Proof/Machine/Custody.lean ====
section
/-! DEFINITION. The custody commands: LOAD, SHIFT, STAGE, RESTOW, DELIVER, WRITE_OFF, RELEASE (chapter 5). Each is
its checks in the order of its rule and its effect (R84, R85). -/

namespace Sys2Proof.Machine

/-! ### LOAD (R88, R89) -/

/-- The checks of LOAD in their order (R88). -/
def State.loadChecks (id : Word32) (prof compartment : Byte) (s : State) : List (Bool × ResultCode) :=
  [(s.tb.interval.isNone, .notReady),
    (decide (7 < prof.toNat) || !s.compPresent compartment.toNat, .range),
    (!(s.profileAt prof.toNat).defined, .noProfile),
    ((s.findId? id).isSome, .duplicate),
    (s.lowestFree?.isNone, .tableFull),
    (s.compFull compartment.toNat, .zoneFull),
    (s.doorShut compartment.toNat, .doorClosed)]

/-- A record made in a FREE slot: its profile's use count raised, its handle inserted into the index and appended to
its list (R66, R79, R81). -/
def State.makeRecord (h : Nat) (r : Record) (s : State) : State :=
  let s1 := (s.setRecord h (some r)).modifyProfile r.profile fun p => { p with useCount := p.useCount + 1 }
  (s1.insertIndex h r.id).joinList h r.custody

/-- The effect of LOAD (R89). -/
def State.loadEffect (id : Word32) (prof compartment : Byte) (s : State) : State × Reply :=
  match s.lowestFree? with
  | none => (s, refusal .tableFull)
  | some h => (s.makeRecord h (loadedRecord id prof.toNat compartment.toNat s.now), okReply [byte h])

/-- LOAD. -/
def execLoad (fr : Frame) (id : Word32) (prof compartment : Byte) (s : State) : Host.Outcome State Fault Refusal :=
  .next (s.receiveCommand 0x20 fr
    (command (State.loadChecks id prof compartment) (State.loadEffect id prof compartment)))

/-! ### SHIFT (R91, R92) -/

/-- The checks of SHIFT in their order; the test of the destination against the record's place comes last (R91). -/
def State.shiftChecks (handle : Byte) (id : Word32) (expected dest : Byte) (s : State) : List (Bool × ResultCode) :=
  let place := s.placeOf handle.toNat
  s.addressChecks handle id (!s.compPresent expected.toNat || !s.compPresent dest.toNat) ++
    [(s.wrongState handle Record.isLoaded, .wrongState),
      (place != expected.toNat, .mismatch),
      (s.doorShut place, .doorClosed),
      (s.doorShut dest.toNat, .doorClosed),
      (s.compFull dest.toNat, .zoneFull),
      (dest.toNat == place, .range)]

/-- SHIFT (R92). -/
def execShift (fr : Frame) (handle : Byte) (id : Word32) (expected dest : Byte) (s : State) :
    Host.Outcome State Fault Refusal :=
  .next (s.receiveCommand 0x21 fr (command (State.shiftChecks handle id expected dest) fun s =>
    (s.carryOut handle.toNat .shift (Custody.loaded dest.toNat), okReply [])))

/-! ### STAGE (R93, R94) -/

/-- The checks of STAGE in their order (R93). -/
def State.stageChecks (handle : Byte) (id : Word32) (expected : Byte) (s : State) : List (Bool × ResultCode) :=
  let place := s.placeOf handle.toNat
  s.addressChecks handle id (!s.compPresent expected.toNat) ++
    [(s.wrongState handle Record.isLoaded, .wrongState),
      (place != expected.toNat, .mismatch),
      (s.stageFull, .zoneFull),
      (s.doorShut place, .doorClosed)]

/-- STAGE (R94). -/
def execStage (fr : Frame) (handle : Byte) (id : Word32) (expected : Byte) (s : State) :
    Host.Outcome State Fault Refusal :=
  .next (s.receiveCommand 0x22 fr (command (State.stageChecks handle id expected) fun s =>
    (s.carryOut handle.toNat .stage Custody.staged, okReply [])))

/-! ### RESTOW (R95, R96) -/

/-- The checks of RESTOW in their order (R95). -/
def State.restowChecks (handle : Byte) (id : Word32) (compartment : Byte) (s : State) : List (Bool × ResultCode) :=
  s.addressChecks handle id (!s.compPresent compartment.toNat) ++
    [(s.wrongState handle Record.isStaged, .wrongState),
      (s.compFull compartment.toNat, .zoneFull),
      (s.doorShut compartment.toNat, .doorClosed)]

/-- RESTOW (R96). -/
def execRestow (fr : Frame) (handle : Byte) (id : Word32) (compartment : Byte) (s : State) :
    Host.Outcome State Fault Refusal :=
  .next (s.receiveCommand 0x23 fr (command (State.restowChecks handle id compartment) fun s =>
    (s.carryOut handle.toNat .restow (Custody.loaded compartment.toNat), okReply [])))

/-! ### Closing (R97, R98) -/

/-- A record settled, its closing step folded, closed with a kind; the view after it is the payload (R97, R98). -/
def State.closeRecord (h : Nat) (code : StepCode) (kind : CloseKind) (s : State) : State × Reply :=
  let s1 := s.carryOut h code fun _ => .closed kind
  (s1, okReply (s1.viewOf h))

/-- DELIVER (R97). -/
def execDeliver (fr : Frame) (handle : Byte) (id : Word32) (s : State) : Host.Outcome State Fault Refusal :=
  .next (s.receiveCommand 0x24 fr (command
    (fun s => s.addressChecks handle id false ++ [(s.wrongState handle Record.isStaged, .wrongState)])
    (State.closeRecord handle.toNat .deliver .delivered)))

/-- WRITE_OFF (R98). -/
def execWriteOff (fr : Frame) (handle : Byte) (id : Word32) (s : State) : Host.Outcome State Fault Refusal :=
  .next (s.receiveCommand 0x25 fr (command
    (fun s =>
      s.addressChecks handle id false ++
        [(s.wrongState handle (fun r => r.isLoaded || r.isStaged), .wrongState)])
    (State.closeRecord handle.toNat .writeOff .writtenOff)))

/-! ### RELEASE (R99) -/

/-- The final view, then the handle removed from the index, the use count lowered, the slot FREE (R99). -/
def State.releaseEffect (h : Nat) (s : State) : State × Reply :=
  match s.record? h with
  | none => (s, okReply [])
  | some r =>
    (((s.removeIndex h).modifyProfile r.profile fun p => { p with useCount := p.useCount - 1 }).setRecord h none,
      okReply (recordView h r))

/-- RELEASE. -/
def execRelease (fr : Frame) (handle : Byte) (id : Word32) (s : State) : Host.Outcome State Fault Refusal :=
  .next (s.receiveCommand 0x26 fr (command
    (fun s => s.addressChecks handle id false ++ [(s.wrongState handle Record.isClosed, .wrongState)])
    (State.releaseEffect handle.toNat)))

end Sys2Proof.Machine
end

