-- ==== Sys2Proof/Machine/HandOver.lean ====
section
/-! DEFINITION. The hand-off commands and adoption: HAND_OFF, EXPORT_PART, CONFIRM, RECALL, ADOPT_PART, ADOPT_COMMIT,
ADOPT_ABORT (chapter 8). -/

namespace Sys2Proof.Machine

/-- The deadline of a hand-off: an unsigned sum capped at 4,294,967,295 (R135). -/
def handOffDeadline (now window : Nat) : Nat := satAdd32 now window

/-- A settled record frozen: the hand-off count raised, the lapsed mark cleared, HAND_OFF folded, frozen at and
deadline set (R135 steps 2 to 5). -/
def Record.freeze (now window : Nat) (r : Record) : Record :=
  let r1 := { r with handOffs := satAdd 255 r.handOffs 1, marks := { r.marks with lapsed := false } }
  { r1.foldStep .handOff 5 5 with custody := .handover now (handOffDeadline now window) }

/-- The image of the record in a slot with its profile's values (R137). -/
def State.imageOf (s : State) (r : Record) : List Byte := recordImage (s.profileAt r.profile) r

/-- The effect of HAND_OFF (R135); the payload is the image check. -/
def State.handOffEffect (h : Nat) (s : State) : State × Reply :=
  let s1 := s.settle h s.now
  match s1.record? h with
  | none => (s1, okReply [])
  | some r =>
    let frozen := r.freeze s.now s.hu.window
    (s1.setRecord h (some frozen), okReply ((s.imageOf frozen).drop 46))

/-- HAND_OFF. -/
def execHandOff (fr : Frame) (handle : Byte) (id : Word32) (s : State) : Host.Outcome State Fault Refusal :=
  .next (s.receiveCommand 0x30 fr (command
    (fun s => s.addressChecks handle id false ++ [(s.wrongState handle Record.isStaged, .wrongState)])
    (State.handOffEffect handle.toNat)))

/-- A part of the image of the record in a slot (R138). -/
def State.exportPayload (h part : Nat) (s : State) : List Byte :=
  match s.record? h with
  | none => []
  | some r => imagePart (s.imageOf r) part

/-- EXPORT_PART (R138). -/
def execExportPart (fr : Frame) (handle : Byte) (id : Word32) (part : Byte) (s : State) :
    Host.Outcome State Fault Refusal :=
  .next (s.receiveCommand 0x31 fr (command
    (fun s =>
      s.addressChecks handle id (decide (2 < part.toNat)) ++
        [(s.wrongState handle Record.isHandover, .wrongState)])
    (fun s => (s, okReply (s.exportPayload handle.toNat part.toNat)))))

/-- The state check of CONFIRM: LATE for a STAGED record with the lapsed mark, WRONG_STATE otherwise than HANDOVER
(R139). -/
def State.confirmChecks (handle : Byte) (id : Word32) (s : State) : List (Bool × ResultCode) :=
  s.addressChecks handle id false ++
    [((s.record? handle.toNat).any fun r => r.isStaged && r.marks.lapsed, .late),
      (s.wrongState handle Record.isHandover, .wrongState)]

/-- The effect of CONFIRM: no settle; the CONFIRM step, then closed as HANDED_OVER (R139). -/
def State.confirmEffect (h : Nat) (s : State) : State × Reply :=
  match s.record? h with
  | none => (s, okReply [])
  | some r =>
    let s1 := (s.setRecord h (some { r.foldStep .confirm 5 6 with custody := .closed .handedOver })).leaveLists h
    (s1, okReply (s1.viewOf h))

/-- CONFIRM. -/
def execConfirm (fr : Frame) (handle : Byte) (id : Word32) (s : State) : Host.Outcome State Fault Refusal :=
  .next (s.receiveCommand 0x32 fr (command (State.confirmChecks handle id) (State.confirmEffect handle.toNat)))

/-- RECALL (R141): the frozen interval charged at now, the RECALL step folded, the record STAGED at its position. -/
def execRecall (fr : Frame) (handle : Byte) (id : Word32) (s : State) : Host.Outcome State Fault Refusal :=
  .next (s.receiveCommand 0x33 fr (command
    (fun s => s.addressChecks handle id false ++ [(s.wrongState handle Record.isHandover, .wrongState)])
    (fun s => (s.thaw handle.toNat s.now .recalled, okReply []))))

/-! ### Adoption (R145 to R151) -/

/-- The buffer after a taken part: part 0 restarts the sequence (R146). -/
def storePart (part : Nat) (bytes : Vector Byte 16) (parts : List (Vector Byte 16)) : List (Vector Byte 16) :=
  if part = 0 then [bytes] else parts ++ [bytes]

/-- ADOPT_PART (R146); the payload is the counter after the part. -/
def execAdoptPart (fr : Frame) (part : Byte) (bytes : Vector Byte 16) (s : State) :
    Host.Outcome State Fault Refusal :=
  .next (s.receiveCommand 0x34 fr (command
    (fun s =>
      [(decide (2 < part.toNat), .range), (part.toNat != 0 && part.toNat != s.hu.parts.length, .sequence)])
    (fun s =>
      let parts := storePart part.toNat bytes s.hu.parts
      ({ s with hu := { s.hu with parts := parts } }, okReply [byte parts.length]))))

/-- The buffer cleared (R145). -/
def State.clearBuffer (s : State) : State := { s with hu := { s.hu with parts := [] } }

/-- The checks of ADOPT_COMMIT in their order (R147). -/
def State.adoptChecks (s : State) : List (Bool × ResultCode) :=
  let b := bufferBytes s.hu.parts
  [(s.tb.interval.isNone, .notReady),
    (s.hu.parts.length != 3, .sequence),
    (!checkMatches b, .badCheck),
    (!imageConsistent b, .badImage),
    ((s.findId? (imageId b)).isSome, .duplicate),
    ((s.adoptionMatch? b).isNone, .noProfile),
    (s.lowestFree?.isNone, .tableFull),
    (s.stageFull, .zoneFull)]

/-- Whether a refusal of ADOPT_COMMIT drops the buffer (R147). -/
def dropsBuffer (c : ResultCode) : Bool := c == .badCheck || c == .badImage

/-- The effect of a successful ADOPT_COMMIT (R149). -/
def State.adoptEffect (s : State) : State × Reply :=
  let b := bufferBytes s.hu.parts
  match s.lowestFree?, s.adoptionMatch? b with
  | some h, some i => ((s.makeRecord h (adoptedRecord b i s.now)).clearBuffer, okReply [byte h])
  | some _, none => (s, refusal .noProfile)
  | none, _ => (s, refusal .tableFull)

/-- ADOPT_COMMIT as one step: the first failing check, the buffer dropped where R147 says so, or the effect. -/
def State.adoptCommit (s : State) : State × Reply :=
  match firstRefusal s.adoptChecks with
  | some c => (if dropsBuffer c then s.clearBuffer else s, refusal c)
  | none => s.adoptEffect

/-- ADOPT_COMMIT. -/
def execAdoptCommit (fr : Frame) (s : State) : Host.Outcome State Fault Refusal :=
  .next (s.receiveCommand 0x35 fr State.adoptCommit)

/-- ADOPT_ABORT (R151). -/
def execAdoptAbort (fr : Frame) (s : State) : Host.Outcome State Fault Refusal :=
  .next (s.receiveCommand 0x36 fr fun s => (s.clearBuffer, okReply []))

end Sys2Proof.Machine
end

