-- ==== Sys2Proof/Machine/Dispatch.lean ====
section
/-! DEFINITION. One arm per command or event. -/

namespace Sys2Proof.Machine

/-- The effect of a command or event on everything but the queue. -/
def exec (i : Instr) (s : State) : Host.Outcome State Fault Refusal :=
  match i with
  -- power and reset
  | .coldStart inp => Sys2Proof.Machine.execColdStart inp s
  | .vbakLoss => Sys2Proof.Machine.execVbakLoss s
  | .vbakRestore => Sys2Proof.Machine.execVbakRestore s
  | .vsupLoss => Sys2Proof.Machine.execVsupLoss s
  | .vsupReturn inp => Sys2Proof.Machine.execVsupReturn inp s
  | .resetnLow => Sys2Proof.Machine.execResetnLow s
  | .pinReset lowMicros csnLow => Sys2Proof.Machine.execPinReset lowMicros csnLow s
  -- time base
  | .retryWindowEnd edgesFound => Sys2Proof.Machine.execRetryWindowEnd edgesFound s
  | .crystalStop => Sys2Proof.Machine.execCrystalStop s
  | .secondEvent rcPeriods => Sys2Proof.Machine.execSecondEvent rcPeriods s
  | .scan => Sys2Proof.Machine.execScan s
  | .probeRisingEdge probe => Sys2Proof.Machine.execProbeRisingEdge probe s
  | .gateClose => Sys2Proof.Machine.execGateClose s
  | .tick => Sys2Proof.Machine.execTick s
  | .tickPassVisit => Sys2Proof.Machine.execTickPassVisit s
  -- zones, doors, defrost, hand-off deadlines, alert pulses
  | .holdExpiry zone => Sys2Proof.Machine.execHoldExpiry zone s
  | .doorInputChange compartment level => Sys2Proof.Machine.execDoorInputChange compartment level s
  | .doorOpen compartment => Sys2Proof.Machine.execDoorOpen compartment s
  | .doorClose compartment => Sys2Proof.Machine.execDoorClose compartment s
  | .dwellExpiry compartment => Sys2Proof.Machine.execDwellExpiry compartment s
  | .defrostInputChange level => Sys2Proof.Machine.execDefrostInputChange level s
  | .defrostRise => Sys2Proof.Machine.execDefrostRise s
  | .defrostFall => Sys2Proof.Machine.execDefrostFall s
  | .allowanceExpiry compartment => Sys2Proof.Machine.execAllowanceExpiry compartment s
  | .deadlineLapse slot => Sys2Proof.Machine.execDeadlineLapse slot s
  | .pulseEnd start => Sys2Proof.Machine.execPulseEnd start s
  -- link
  | .frameDiscarded whole => Sys2Proof.Machine.execFrameDiscarded whole s
  | .shortTransaction bits => Sys2Proof.Machine.execShortTransaction bits s
  | .responseRead bytes => Sys2Proof.Machine.execResponseRead bytes s
  | .responseReady => Sys2Proof.Machine.execResponseReady s
  | .unknownCommand code fr => Sys2Proof.Machine.execUnknownCommand code fr s
  -- queries
  | .status fr => Sys2Proof.Machine.execStatus fr s
  | .attention fr => Sys2Proof.Machine.execAttention fr s
  | .find fr id => Sys2Proof.Machine.execFind fr id s
  | .view fr handle => Sys2Proof.Machine.execView fr handle s
  | .survey fr field cond value start => Sys2Proof.Machine.execSurvey fr field cond value start s
  | .zone fr z => Sys2Proof.Machine.execZone fr z s
  | .door fr c => Sys2Proof.Machine.execDoor fr c s
  | .probe fr p => Sys2Proof.Machine.execProbe fr p s
  | .profile fr entry => Sys2Proof.Machine.execProfile fr entry s
  -- settings
  | .fixTick fr interval => Sys2Proof.Machine.execFixTick fr interval s
  | .setProbe fr p z zeroCount gain => Sys2Proof.Machine.execSetProbe fr p z zeroCount gain s
  | .setZone fr z lag hold capacity interlock dwell raise defrostMax spacing => Sys2Proof.Machine.execSetZone fr z lag hold capacity interlock dwell raise defrostMax spacing s
  | .setDefrostMask fr mask => Sys2Proof.Machine.execSetDefrostMask fr mask s
  | .setHandover fr window => Sys2Proof.Machine.execSetHandover fr window s
  | .setAlert fr line cond mode => Sys2Proof.Machine.execSetAlert fr line cond mode s
  | .ackAlert fr line => Sys2Proof.Machine.execAckAlert fr line s
  | .defineProfile fr entry upper lower upperBudget lowerBudget blindAllowance => Sys2Proof.Machine.execDefineProfile fr entry upper lower upperBudget lowerBudget blindAllowance s
  | .clearProfile fr entry => Sys2Proof.Machine.execClearProfile fr entry s
  -- custody
  | .load fr id prof compartment => Sys2Proof.Machine.execLoad fr id prof compartment s
  | .shift fr handle id expected dest => Sys2Proof.Machine.execShift fr handle id expected dest s
  | .stage fr handle id expected => Sys2Proof.Machine.execStage fr handle id expected s
  | .restow fr handle id compartment => Sys2Proof.Machine.execRestow fr handle id compartment s
  | .deliver fr handle id => Sys2Proof.Machine.execDeliver fr handle id s
  | .writeOff fr handle id => Sys2Proof.Machine.execWriteOff fr handle id s
  | .release fr handle id => Sys2Proof.Machine.execRelease fr handle id s
  -- hand-off
  | .handOff fr handle id => Sys2Proof.Machine.execHandOff fr handle id s
  | .exportPart fr handle id part => Sys2Proof.Machine.execExportPart fr handle id part s
  | .confirm fr handle id => Sys2Proof.Machine.execConfirm fr handle id s
  | .recallRecord fr handle id => Sys2Proof.Machine.execRecall fr handle id s
  | .adoptPart fr part bytes => Sys2Proof.Machine.execAdoptPart fr part bytes s
  | .adoptCommit fr => Sys2Proof.Machine.execAdoptCommit fr s
  | .adoptAbort fr => Sys2Proof.Machine.execAdoptAbort fr s

end Sys2Proof.Machine
end

