-- ==== Sys2Proof/WellFormed.lean ====
section
/-! DEFINITION. The checks on a command or event as syntax: numbers that name an existing probe, zone, compartment,
slot or line; a frame whose parts agree; a power-up that has a supply. -/

namespace Sys2Proof

open Sys2Proof.Machine

/-- A frame as a transaction of at least eight bits leaves it: one whole byte or more, fewer than eight bits beyond,
and no length byte in a transaction of one byte (R177, R178). -/
def Frame.wellFormed (fr : Frame) : Bool :=
  decide (1 ≤ fr.whole) && decide (fr.stray < 8) && (fr.whole != 1 || fr.len == 0)

/-- A cold start is taken with either supply or both (R14). -/
def ColdInputs.wellFormed (inp : ColdInputs) : Bool := inp.vsup || inp.vbak

/-- Well-formed commands and events. -/
def Instr.wellFormed (i : Instr) : Bool :=
  match i with
  | .coldStart inp => inp.wellFormed
  | .probeRisingEdge p => decide (p < 8)
  | .holdExpiry z => decide (1 ≤ z ∧ z ≤ 5)
  | .doorInputChange c _ => decide (1 ≤ c ∧ c ≤ 4)
  | .doorOpen c => decide (1 ≤ c ∧ c ≤ 4)
  | .doorClose c => decide (1 ≤ c ∧ c ≤ 4)
  | .dwellExpiry c => decide (1 ≤ c ∧ c ≤ 4)
  | .allowanceExpiry c => decide (1 ≤ c ∧ c ≤ 4)
  | .deadlineLapse h => decide (h < 48)
  | .pulseEnd e => decide (e.line < 2)
  | .frameDiscarded whole => decide (1 ≤ whole)
  | .shortTransaction bits => decide (bits < 8)
  | .responseRead bytes => decide (1 ≤ bytes)
  | .unknownCommand code fr => decide (code ≠ 0) && (payloadLength? code).isNone && fr.wellFormed
  | .vbakLoss => true
  | .vbakRestore => true
  | .vsupLoss => true
  | .vsupReturn _ => true
  | .resetnLow => true
  | .pinReset _ _ => true
  | .retryWindowEnd _ => true
  | .crystalStop => true
  | .secondEvent _ => true
  | .scan => true
  | .gateClose => true
  | .tick => true
  | .tickPassVisit => true
  | .defrostInputChange _ => true
  | .defrostRise => true
  | .defrostFall => true
  | .responseReady => true
  | .status fr => fr.wellFormed
  | .attention fr => fr.wellFormed
  | .find fr _ => fr.wellFormed
  | .view fr _ => fr.wellFormed
  | .survey fr _ _ _ _ => fr.wellFormed
  | .zone fr _ => fr.wellFormed
  | .door fr _ => fr.wellFormed
  | .probe fr _ => fr.wellFormed
  | .profile fr _ => fr.wellFormed
  | .fixTick fr _ => fr.wellFormed
  | .setProbe fr _ _ _ _ => fr.wellFormed
  | .setZone fr _ _ _ _ _ _ _ _ _ => fr.wellFormed
  | .setDefrostMask fr _ => fr.wellFormed
  | .setHandover fr _ => fr.wellFormed
  | .setAlert fr _ _ _ => fr.wellFormed
  | .ackAlert fr _ => fr.wellFormed
  | .defineProfile fr _ _ _ _ _ _ => fr.wellFormed
  | .clearProfile fr _ => fr.wellFormed
  | .load fr _ _ _ => fr.wellFormed
  | .shift fr _ _ _ _ => fr.wellFormed
  | .stage fr _ _ _ => fr.wellFormed
  | .restow fr _ _ _ => fr.wellFormed
  | .deliver fr _ _ => fr.wellFormed
  | .writeOff fr _ _ => fr.wellFormed
  | .release fr _ _ => fr.wellFormed
  | .handOff fr _ _ => fr.wellFormed
  | .exportPart fr _ _ _ => fr.wellFormed
  | .confirm fr _ _ => fr.wellFormed
  | .recallRecord fr _ _ => fr.wellFormed
  | .adoptPart fr _ _ => fr.wellFormed
  | .adoptCommit fr => fr.wellFormed
  | .adoptAbort fr => fr.wellFormed

end Sys2Proof
end

