-- ==== Sys2Proof/Safety.lean ====
section
/-! DEFINITION. The terms claims are stated in: when the link takes a command, what a carried-out command leaves of
the link and the lines, which blocks stand, and the invariants of the part. -/

namespace Sys2Proof.Machine

/-- The next state of an outcome, if it is one. -/
def nextOf (o : Host.Outcome State Fault Refusal) : Option State :=
  match o with
  | .next t => some t
  | .fault _ => none
  | .refused _ => none

/-- The link takes the next command transaction: RUN, RESETN high, not waiting for CSN to rise, no command executing
(R177, R178, R183). -/
abbrev State.ready (s : State) : Prop :=
  s.tb.power = .run ∧ s.tb.resetLow = false ∧ s.li.waitRise = false ∧ s.li.executing = none

/-- Time base, scanner, zone monitor, profiles, table, pass and hand-off unit stand. -/
abbrev Unmoved (s t : State) : Prop :=
  t.tb = s.tb ∧ t.ps = s.ps ∧ t.zm = s.zm ∧ t.pt = s.pt ∧ t.ct = s.ct ∧ t.ae = s.ae ∧ t.hu = s.hu

/-- Each line after a step from `s` to `t` (R172, R173, R176): condition and mode stand, the reference is the level
now, and in RUN a false-to-true change sets the latch of a LATCH line or starts or restarts the pulse of a PULSE line, which
then awaits the end of this start (starts are numbered on each line: log entry 8). -/
abbrev LinesStepped (s t : State) : Prop :=
  ∀ i : Fin 2,
    t.au.lines[i].condition = s.au.lines[i].condition ∧ t.au.lines[i].mode = s.au.lines[i].mode ∧
      t.au.lines[i].reference = t.level s.au.lines[i].condition ∧
      (t.au.lines[i].latch = true ↔
        s.au.lines[i].latch = true ∨
          (t.tb.power = .run ∧ s.au.lines[i].mode = .latch ∧ s.au.lines[i].reference = false ∧
            t.level s.au.lines[i].condition = true)) ∧
      if t.tb.power = .run ∧ s.au.lines[i].mode = .pulse ∧ s.au.lines[i].reference = false ∧
          t.level s.au.lines[i].condition = true then
        t.au.lines[i].pulseEnd = some s.au.lines[i].pulses ∧ t.au.lines[i].pulses = s.au.lines[i].pulses + 1
      else t.au.lines[i].pulseEnd = s.au.lines[i].pulseEnd ∧ t.au.lines[i].pulses = s.au.lines[i].pulses

/-- `exec` takes the command `i`, sent whole with `n` payload bytes, from `s` to `t`, with the answer `r`: the pending
flag set, the held response gone, the overrun flag clear, FFh on SDO throughout (R177, R180, R182). That the whole step
is taken at CSN rise and the answer held until RESPONSE_READY is log entry 24, the record of SDO log entry 15. -/
abbrev Answered (i : Instr) (n : Nat) (s t : State) (r : Reply) : Prop :=
  exec i s = .next t ∧ t.li = ⟨[], none, some r, false, false, some (List.replicate (2 + n) 0xFF)⟩ ∧
    t.freeCount = s.freeCount ∧ t.pending = s.pending

/-- A command answered as `Answered` says (log entries 15 and 24), the lines stepped. -/
abbrev Carried (i : Instr) (n : Nat) (s t : State) (r : Reply) : Prop := Answered i n s t r ∧ LinesStepped s t

/-- A command refused with a code: no payload, no state of any block changed (R84). -/
abbrev Refuses (i : Instr) (n : Nat) (s : State) (code : ResultCode) : Prop :=
  ∃ t, Carried i n s t ⟨code, []⟩ ∧ Unmoved s t ∧ t.au.attention = s.au.attention

/-- An event taken from `s` to `t`: the lines stepped, the link and the model's own fields standing. -/
abbrev Happens (i : Instr) (s t : State) : Prop :=
  exec i s = .next t ∧ LinesStepped s t ∧ t.li = s.li ∧ t.freeCount = s.freeCount ∧ t.pending = s.pending

/-- After a step from `s` to `t` the attention set holds what it held and the kind raised, if any (R167). -/
abbrev Raised (k : Option Kind) (s t : State) : Prop := ∀ x, x ∈ t.au.attention ↔ x ∈ s.au.attention ∨ k = some x

/-- Every slot but `h` holds what it held. -/
abbrev OthersStand (h : Nat) (s t : State) : Prop := ∀ k, k ≠ h → t.record? k = s.record? k

/-- No expiry falls in the present second and is still to be taken: no hold, dwell or allowance deadline and no hand-off
deadline after its freezing is now (R43, R49, R55, R142). -/
abbrev State.noExpiryDue (s : State) : Prop :=
  (∀ z, 1 ≤ z → z ≤ 5 → (s.zoneAt z).sensing ≠ .held s.tb.trip) ∧
    (∀ c, s.compPresent c = true → (s.compAt c).doorOpen = true → (s.compAt c).dwellDeadline ≠ some s.tb.trip) ∧
    (∀ c start raise, s.compPresent c = true → (s.compAt c).episode ≠ some ⟨start, some ⟨raise, s.tb.trip⟩⟩) ∧
    ∀ h r frozenAt, s.record? h = some r → r.custody = .handover frozenAt s.tb.trip → s.tb.trip ≤ frozenAt

/-- The rows of every expiry at a second event: holds, dwells, allowances, lapses. -/
def expiryRows : List Instr :=
  [1, 2, 3, 4, 5].map .holdExpiry ++ [1, 2, 3, 4].map .dwellExpiry ++ [1, 2, 3, 4].map .allowanceExpiry ++
    (List.range 48).map .deadlineLapse

/-- `exec` takes the rows of a list one after the other from `s` to `t`. -/
def RowsTaken : List Instr → State → State → Prop
  | [], s, t => t = s
  | i :: rest, s, t => ∃ u, exec i s = .next u ∧ RowsTaken rest u t

/-- Zones, compartments, records and attention set of `t` are those that the expiry rows, taken in turn, make of `s`: a
row whose expiry is not due does nothing (log entry 5). -/
abbrev ExpiriesTaken (s t : State) : Prop :=
  ∃ u, RowsTaken expiryRows s u ∧ t.zm = u.zm ∧ t.ct = u.ct ∧ t.au.attention = u.au.attention

/-- A command's checks in order, each as the condition under which it fails and its code: the first that fails decides
the refusal (R84). -/
abbrev RefusedInOrder (i : Instr) (n : Nat) (s : State) : List (Prop × ResultCode) → Prop
  | [] => True
  | (fails, code) :: rest => (fails → Refuses i n s code) ∧ (¬fails → RefusedInOrder i n s rest)

/-! ### Spec-side relations -/

/-- One step of an estimate toward its air figure with lag `k` (R45). -/
abbrev EstimateStep (k : Nat) (air estimate estimate' : Int) : Prop :=
  let d := air - estimate
  (d.tdiv (2 ^ k) ≠ 0 → estimate' = estimate + d.tdiv (2 ^ k)) ∧
    (d.tdiv (2 ^ k) = 0 → estimate' = estimate + d.sign)

/-- A probe after one reading of count `n` (R23 to R28, R31 to R33). -/
abbrev ReadingOutcome (n : Nat) (q q' : Probe) : Prop :=
  let t := convertCount n q.zeroCount q.gain
  let rejected := n < 16 ∨ n = 65535 ∨ t < -550 ∨ 850 < t
  let x := if t < -400 then -400 else if 700 < t then 700 else t
  let appended := (q.window ++ [x]).drop (q.window.length + 1 - 4)
  q'.zone = q.zone ∧ q'.zeroCount = q.zeroCount ∧ q'.gain = q.gain ∧ q'.edges = none ∧ q'.lastCount = n ∧
    q'.lastTemp = t ∧
    (rejected →
      q'.clamped = q.clamped ∧
        (q.state ≠ .faulted ∧ q.rejects < 2 →
          q'.state = q.state ∧ q'.rejects = q.rejects + 1 ∧ q'.window = q.window) ∧
        (q.state ≠ .faulted ∧ 2 ≤ q.rejects → q'.state = .faulted ∧ q'.rejects = 3 ∧ q'.window = []) ∧
        (q.state = .faulted → q'.state = .faulted ∧ q'.rejects = min (q.rejects + 1) 3 ∧ q'.window = [])) ∧
    (¬rejected →
      q'.clamped = decide (t < -400 ∨ 700 < t) ∧ q'.rejects = 0 ∧ q'.window = appended ∧
        (q.state = .filling → q'.state = if appended.length = 2 then .active else .filling) ∧
        (q.state = .active → q'.state = .active) ∧
        (q.state = .faulted → q'.state = if appended.length = 4 then .active else .faulted))

/-- A zone after a gate-close in second `now` with a hand-over set (R41, R42, R45). -/
abbrev ZoneMoves (now : Nat) (set : List Int) (z z' : Zone) : Prop :=
  z'.lag = z.lag ∧ z'.hold = z.hold ∧
    (set ≠ [] →
      z'.sensing = .sensed ∧ z'.airMax ∈ set ∧ z'.airMin ∈ set ∧ (∀ x ∈ set, z'.airMin ≤ x ∧ x ≤ z'.airMax)) ∧
    (set = [] → z'.airMax = z.airMax ∧ z'.airMin = z.airMin) ∧
    (set = [] ∧ z.sensing = .sensed ∧ z.hold = 0 → z'.sensing = .blind) ∧
    (set = [] ∧ z.sensing = .sensed ∧ z.hold ≠ 0 → z'.sensing = .held (now + z.hold)) ∧
    (set = [] ∧ z.sensing ≠ .sensed → z'.sensing = z.sensing) ∧
    (z'.sensing = .blind → z'.warm = z.warm ∧ z'.cold = z.cold) ∧
    (z.sensing = .blind ∧ set ≠ [] → z'.warm = z'.airMax ∧ z'.cold = z'.airMin) ∧
    (z.sensing ≠ .blind ∧ z'.sensing ≠ .blind →
      EstimateStep z.lag z'.airMax z.warm z'.warm ∧ EstimateStep z.lag z'.airMin z.cold z'.cold)

/-- What the alert unit's two lines show is up to date: each reference is its condition's level (R172). -/
abbrev State.linesCurrent (s : State) : Prop := ∀ i : Fin 2, s.au.lines[i].reference = s.level s.au.lines[i].condition

/-- A running pulse awaits the end of a start that has happened, so the next start's number differs from every earlier
one (R173; log entry 8). -/
abbrev State.pulsesNumbered (s : State) : Prop :=
  ∀ (i : Fin 2) (n : Nat), s.au.lines[i].pulseEnd = some n → n < s.au.lines[i].pulses

/-! ### Invariants -/

/-- The ID index holds exactly the handles of the records that are not FREE, in strictly ascending ID order (R78). -/
def State.indexed (s : State) : Prop :=
  (∀ h, h ∈ s.ct.index ↔ (s.record? h).isSome = true) ∧
    s.ct.index.Pairwise fun a b =>
      ∀ ra rb, s.record? a = some ra → s.record? b = some rb → ra.id.toNat < rb.id.toNat

/-- Every LOADED record is in its compartment's member list alone, every STAGED or HANDOVER record in the stage list
alone, no list holds a handle twice or any other handle (R80), and a LOADED record's compartment is present. -/
def State.listed (s : State) : Prop :=
  s.tb.presentCount ≤ 4 ∧
    (∀ c, 1 ≤ c → c ≤ 4 →
      (s.membersOf c).Nodup ∧
        ∀ h, h ∈ s.membersOf c ↔ ∃ r t, s.record? h = some r ∧ r.custody = .loaded c t) ∧
    s.ct.stage.Nodup ∧
    (∀ h, h ∈ s.ct.stage ↔ ∃ r, s.record? h = some r ∧ (r.isStaged = true ∨ r.isHandover = true)) ∧
    ∀ h r c t, s.record? h = some r → r.custody = .loaded c t → 1 ≤ c ∧ c ≤ s.tb.presentCount

/-- No member list exceeds its compartment's capacity, nor the stage list 8 (R82). -/
def State.withinCapacity (s : State) : Prop :=
  (∀ c, 1 ≤ c → c ≤ 4 → (s.membersOf c).length ≤ (s.compAt c).capacity) ∧ s.ct.stage.length ≤ 8

/-- The number of records that are not FREE and name a profile entry (R66). -/
def State.naming (s : State) (i : Nat) : Nat := s.ct.slots.toList.countP fun x => x.any fun r => r.profile == i

/-- Each use count is the number of records naming the entry, and an entry in use is defined (R66). -/
def State.useCounted (s : State) : Prop :=
  (∀ i, i < 8 → (s.profileAt i).useCount = s.naming i ∧ (0 < s.naming i → (s.profileAt i).defined = true)) ∧
    ∀ h r, s.record? h = some r → r.profile < 8

/-- The laws a record keeps: its sums within 32 bits, blind seconds at most custody seconds, the peak excess within 16
bits, first-break at most custody seconds, hand-offs at most 255 (R70, R109, R110, R148). -/
def Record.lawful (r : Record) : Prop :=
  r.upperExposure ≤ maxU32 ∧ r.lowerExposure ≤ maxU32 ∧ r.custodySeconds ≤ maxU32 ∧
    r.blindSeconds ≤ r.custodySeconds ∧ r.peakExcess ≤ 65535 ∧ r.handOffs ≤ 255 ∧
    ∀ b, r.status = .broken b → b ≤ r.custodySeconds

def State.recordsLawful (s : State) : Prop := ∀ h r, s.record? h = some r → r.lawful

/-- The profile table: a defined entry has valid limits and budgets of 32 bits, an undefined one is all 0 but for its use
count (R62, R63). -/
def State.profilesLawful (s : State) : Prop :=
  ∀ i, i < 8 →
    ((s.profileAt i).defined = true →
        -400 ≤ (s.profileAt i).upper ∧ (s.profileAt i).upper ≤ 700 ∧ -400 ≤ (s.profileAt i).lower ∧
          (s.profileAt i).lower ≤ 700 ∧ (s.profileAt i).lower < (s.profileAt i).upper ∧
          (s.profileAt i).upperBudget ≤ maxU32 ∧ (s.profileAt i).lowerBudget ≤ maxU32 ∧
          (s.profileAt i).blindAllowance ≤ maxU32) ∧
      ((s.profileAt i).defined = false →
        (s.profileAt i).upper = 0 ∧ (s.profileAt i).lower = 0 ∧ (s.profileAt i).upperBudget = 0 ∧
          (s.profileAt i).lowerBudget = 0 ∧ (s.profileAt i).blindAllowance = 0)

/-- Readings, air figures and estimates lie within −400..+700; a window holds at most four readings, S at most 3
(R19, R26, R38). -/
def State.measured (s : State) : Prop :=
  (∀ p, p < 8 →
      (s.probeAt p).window.length ≤ 4 ∧ (s.probeAt p).rejects ≤ 3 ∧
        ∀ x ∈ (s.probeAt p).window, -400 ≤ x ∧ x ≤ 700) ∧
    ∀ z, 1 ≤ z → z ≤ 5 →
      -400 ≤ (s.zoneAt z).airMax ∧ (s.zoneAt z).airMax ≤ 700 ∧ -400 ≤ (s.zoneAt z).airMin ∧
        (s.zoneAt z).airMin ≤ 700 ∧ -400 ≤ (s.zoneAt z).warm ∧ (s.zoneAt z).warm ≤ 700 ∧
        -400 ≤ (s.zoneAt z).cold ∧ (s.zoneAt z).cold ≤ 700

/-- In BACKUP: every zone BLIND, no gate open, no scan due, every door state closed, no episode,
DEFROST inactive, the adoption buffer empty, SDO at high impedance, no latch set and no pulse running (R6, R11, R59,
R145, R176, R177). -/
def State.backupQuiet (s : State) : Prop :=
  s.tb.power = .backup →
    s.ps.gateOpen = false ∧ s.tb.scanDue = false ∧ s.zm.defrostActive = false ∧ s.hu.parts = [] ∧
      s.li.sdo = none ∧ (∀ z, 1 ≤ z → z ≤ 5 → (s.zoneAt z).sensing = .blind) ∧
      (∀ c, 1 ≤ c → c ≤ 4 → (s.compAt c).doorOpen = false ∧ (s.compAt c).episode = none) ∧
      ∀ i : Fin 2, s.au.lines[i].latch = false ∧ s.au.lines[i].pulseEnd = none

/-- Where a record's custody seconds stand on the trip clock: last charge, or frozen at while HANDOVER (R187). -/
def Record.chargedTo? (r : Record) : Option Nat :=
  match r.custody with
  | .loaded _ t => some t
  | .staged t => some t
  | .handover f _ => some f
  | .closed _ => none

/-- No record is charged beyond the trip clock, nor will the pass in flight charge one beyond it (R103, R116). -/
def State.chargedByNow (s : State) : Prop :=
  (∀ h r t, s.record? h = some r → r.chargedTo? = some t → t ≤ s.now) ∧ ∀ p, s.ae = some p → p.tick ≤ s.now

end Sys2Proof.Machine
end

