-- ==== Sys2Proof/Certificates/Slice0/Obligations.lean ====
section
/-! DEFINITION. The statements for the provers, one `Prop` each. Where a statement rests on a choice of the model its
docstring names the log entry. -/

section

open Sys2Proof Sys2Proof.Machine


/-! ### The queue and the whole machine -/

/-- One step carries out the command at the front of the queue with the rest of the queue; an empty queue idles
(the model's queue: log entry 6). -/
def Obligations.StepRunsTheFrontOfTheQueue : Prop :=
  (∀ (c : Instr) (rest : List Instr) (s : State),
      step { s with pending := c :: rest } = exec c { s with pending := rest }) ∧
    ∀ s : State, s.pending = [] → step s = .next s

/-- Every command and event answers a next state and leaves the queue as it was: nothing stops the part. That an event
whose condition does not hold answers a next state too, changing nothing, is the model's choice (log entry 4; log entry 2
for the part without power). -/
def Obligations.NoCommandStopsThePart : Prop :=
  ∀ (i : Instr) (s : State), ∃ t, exec i s = .next t ∧ t.pending = s.pending

/-- The state right after reset meets every invariant that the statements below say a step keeps. It speaks of this one
power-up, whose pin levels are the model's choice (log entry 1). -/
def Obligations.ResetMeetsTheInvariants : Prop :=
  State.reset.indexed ∧ State.reset.listed ∧ State.reset.withinCapacity ∧ State.reset.useCounted ∧
    State.reset.recordsLawful ∧ State.reset.profilesLawful ∧ State.reset.measured ∧ State.reset.linesCurrent ∧
    State.reset.pulsesNumbered ∧ State.reset.backupQuiet ∧ State.reset.chargedByNow

/-- Every step keeps the ID index exact and in strictly ascending ID order (R78, R79). -/
def Obligations.StepKeepsTheIndex : Prop := ∀ s t : State, s.indexed → step s = .next t → t.indexed

/-- Every step keeps each record in the one list its state and place give it (R72, R80, R81). -/
def Obligations.StepKeepsTheLists : Prop := ∀ s t : State, s.listed → step s = .next t → t.listed

/-- Every step keeps the lists within their limits (R39, R82). -/
def Obligations.StepKeepsTheCapacities : Prop :=
  ∀ s t : State, s.withinCapacity → step s = .next t → t.withinCapacity

/-- Every step keeps each use count the number of records naming the entry, and an entry in use defined (R66). -/
def Obligations.StepKeepsTheUseCounts : Prop := ∀ s t : State, s.useCounted → step s = .next t → t.useCounted

/-- Every step keeps the profile table lawful, a defined entry valid and an undefined one all 0 (R62, R63); and, with a
lawful profile table and measurements in range, which bound an excess, every step keeps every record within the laws of
its figures, its peak excess within 16 bits among them (R70, R109, R110, R148). -/
def Obligations.StepKeepsRecordsLawful : Prop :=
  (∀ s t : State, s.profilesLawful → step s = .next t → t.profilesLawful) ∧
    ∀ s t : State, s.measured → s.profilesLawful → s.recordsLawful → step s = .next t → t.recordsLawful

/-- Every step keeps readings, air figures and estimates within −400..+700 and the windows and reject counters within
their sizes (R19, R26, R38). -/
def Obligations.StepKeepsMeasurementsInRange : Prop :=
  ∀ s t : State, s.measured → step s = .next t → t.measured

/-- Every step leaves each alert line's reference at the level of its condition (R172), and keeps the number of the start
whose end a running pulse awaits below the count of its line's starts, so that a restart's number is new (the numbers are
the model's: log entry 8). -/
def Obligations.StepKeepsTheLinesCurrent : Prop :=
  (∀ s t : State, s.linesCurrent → step s = .next t → t.linesCurrent) ∧
    ∀ s t : State, s.pulsesNumbered → step s = .next t → t.pulsesNumbered

/-- Every step keeps BACKUP quiet: zones BLIND, gate closed, no scan due, doors closed, no episode, buffer empty, SDO
at high impedance, no latch and no pulse (R11, R59, R145, R176, R177). -/
def Obligations.StepKeepsBackupQuiet : Prop := ∀ s t : State, s.backupQuiet → step s = .next t → t.backupQuiet

/-- While a record exists its ID and profile stand, its sums and counts never decrease, its status never falls, its
first-break stands, and its adopted and timing-estimated marks are never cleared (R70, R71, R111, R112, R113). -/
def Obligations.RecordsOnlyWorsen : Prop :=
  ∀ (s t : State) (h : Nat) (r r' : Record), s.recordsLawful → step s = .next t → s.record? h = some r →
    t.record? h = some r' →
    r'.id = r.id ∧ r'.profile = r.profile ∧ r.upperExposure ≤ r'.upperExposure ∧
      r.lowerExposure ≤ r'.lowerExposure ∧ r.blindSeconds ≤ r'.blindSeconds ∧
      r.custodySeconds ≤ r'.custodySeconds ∧ r.peakExcess ≤ r'.peakExcess ∧ r.handOffs ≤ r'.handOffs ∧
      r.status.ordinal ≤ r'.status.ordinal ∧ (∀ b, r.status = .broken b → r'.status = .broken b) ∧
      r'.marks.adopted = r.marks.adopted ∧ (r.marks.timing = true → r'.marks.timing = true)

/-- Custody seconds run with the trip clock (R187, R188): a step that moves a record's last charge or frozen-at second
on raises its custody seconds by as much; a closing from LOADED or STAGED raises them by what had passed since the last
charge; a CONFIRM, and anything done to a CLOSED record, leaves them; and no record is ever charged beyond now. -/
def Obligations.CustodySecondsTrackTheClock : Prop :=
  ∀ s t : State, s.recordsLawful → s.chargedByNow → step s = .next t →
    t.chargedByNow ∧
      ∀ (h : Nat) (r r' : Record), s.record? h = some r → t.record? h = some r' →
        (∀ p p', r.chargedTo? = some p → r'.chargedTo? = some p' →
            p ≤ p' ∧ r'.custodySeconds = satAdd32 r.custodySeconds (p' - p)) ∧
          (∀ p, r.lastCharge? = some p → r'.isClosed = true →
            r'.custodySeconds = satAdd32 r.custodySeconds (s.now - p)) ∧
          (r.isHandover = true → r'.isClosed = true → r'.custodySeconds = r.custodySeconds) ∧
          (r.isClosed = true → r' = r)

/-- A well-formed host command sent whole is decoded from its bytes as the command it is, with every operand at every
value (R178, R179, R186 and the code table of 11.4). -/
def Obligations.DecodingInvertsEncoding : Prop :=
  ∀ (i : Instr) (c : Byte) (n : Nat), i.wellFormed = true → i.code? = some c → payloadLength? c = some n →
    i.frame? = some (Frame.exact n) → decodeTransaction (encodeCommand i) 0 = i

/-! ### Power and reset -/

/-- COLD_START with either supply gives every block its initial values (R15, R16, R19, R38, R62, R74, R116, R145, R170,
R176, R177, R182). That it is taken whatever the state before, and the levels taken as operands, are the model's choice
(log entries 1 and 9), and the counts of pulse starts, which stand, are its own (log entry 8); that NORMAL or DEGRADED is decided within it, no retry window standing open after it, is log entry
11, and that CSN found low is waited out then is log entry 13. -/
def Obligations.ColdStartGivesInitialValues : Prop :=
  ∀ (inp : ColdInputs) (s : State), (inp.vsup = true ∨ inp.vbak = true) →
    ∃ t, exec (.coldStart inp) s = .next t ∧ t.pending = s.pending ∧ t.freeCount = s.freeCount ∧
      t.tb.trip = 0 ∧ t.tb.interval = none ∧ t.tb.trim = 1048576 ∧ t.tb.outage = 0 ∧ t.tb.powerReturn = none ∧
      (inp.vsup = true → t.tb.power = .run ∧ t.tb.backupEntry = none) ∧
      (inp.vsup = false → t.tb.power = .backup ∧ t.tb.backupEntry = some 0) ∧
      (inp.crystalFound = true → t.tb.degraded = false ∧ t.tb.lastDegraded = none) ∧
      (inp.crystalFound = false → t.tb.degraded = true ∧ t.tb.lastDegraded = some 0) ∧
      t.tb.vbak = inp.vbak ∧ t.tb.scanDue = false ∧ t.tb.tickDue = false ∧ t.tb.retryOpen = false ∧
      t.tb.presentCount = 1 + (if inp.zsel1 then 2 else 0) + (if inp.zsel0 then 1 else 0) ∧
      t.ps.gateOpen = false ∧
      (∀ p, p < 8 → t.probeAt p = ⟨0, 5000, 256, .off, 0, [], 0, 0, false, none⟩) ∧
      (∀ z, 1 ≤ z → z ≤ 5 → t.zoneAt z = ⟨4, 60, .blind, 0, 0, 0, 0⟩) ∧
      (∀ c : Fin 4,
        let level := inp.vsup && decide (c.val + 1 ≤ t.tb.presentCount) && inp.doors[c]
        t.compAt (c.val + 1) =
          ⟨12, false, 0, 30, 1800, 3600, level, false, level, none, 0, false, none, false, false, none, none⟩) ∧
      t.zm.defrostActive = (inp.vsup && inp.defrost) ∧
      (∀ i, i < 8 → t.profileAt i = ⟨false, 0, 0, 0, 0, 0, 0⟩) ∧
      (∀ h, t.record? h = none) ∧ t.ct.index = [] ∧ t.ct.stage = [] ∧ (∀ c, t.membersOf c = []) ∧ t.ae = none ∧
      t.hu = ⟨300, []⟩ ∧ t.au.attention = [.coldStart] ∧
      (∀ i : Fin 2, t.au.lines[i] = ⟨.atRiskPresent, .follow, false, false, none, s.au.lines[i].pulses⟩) ∧
      t.li = ⟨[], none, none, false, inp.vsup && inp.csnLow, none⟩

/-- The backup supply: VBAK_LOSS and VBAK_RESTORE in RUN leave the part running and note the supply alone; VBAK_LOSS in
BACKUP, and VSUP_LOSS in RUN without VBAK, lose all power, so that the table is gone; a COLD_START then gives the same
state as from any other, but for the queue and the model's counts of free values and pulse starts; and nothing but a COLD_START with a supply does
anything (R10, R14). That the part without power idles is the model's choice (log entry 2), and so are a COLD_START from any
state (log entry 9) and the counts of pulse starts (log entry 8). -/
def Obligations.BackupSupplyAndLossOfAllPower : Prop :=
  (∀ s : State, s.tb.power = .run →
      exec .vbakLoss s = .next { s with tb := { s.tb with vbak := false } } ∧
        exec .vbakRestore s = .next { s with tb := { s.tb with vbak := true } }) ∧
    (∀ s : State, s.tb.power = .backup ∨ (s.tb.power = .run ∧ s.tb.vbak = false) →
      ∃ t, exec (if s.tb.power = .backup then .vbakLoss else .vsupLoss) s = .next t ∧ t.tb.power = .off ∧
        (∀ h, t.record? h = none) ∧ t.pending = s.pending ∧ t.freeCount = s.freeCount ∧
        ∀ i : Fin 2, t.au.lines[i].pulses = s.au.lines[i].pulses) ∧
    (∀ (inp : ColdInputs) (s s' : State), s.tb.power = .off → (inp.vsup = true ∨ inp.vbak = true) →
      ∃ t, exec (.coldStart inp) s = .next t ∧
        exec (.coldStart inp) s' =
          .next
            { t with
              au :=
                { t.au with
                  lines := Vector.ofFn fun i : Fin 2 => { t.au.lines[i] with pulses := s'.au.lines[i].pulses } }
              freeCount := s'.freeCount
              pending := s'.pending }) ∧
    ∀ (s : State) (i : Instr), s.tb.power = .off →
      (∀ inp, i = .coldStart inp → inp.vsup = false ∧ inp.vbak = false) → exec i s = .next s

/-- VSUP_LOSS in RUN with VBAK present enters BACKUP: the entry second recorded, scans stopped, the gate abandoned with
its counts, every zone BLIND with its figures kept, open doors closed at the entry second, episodes ended, the adoption
buffer emptied, latches and pulses cleared, ATTN, PEXC and the alert lines off, SDO at high impedance; everything else
stands (R10, R18, R35, R59, R145, R169, R176, R177, R182). -/
def Obligations.VsupLossEntersBackup : Prop :=
  ∀ s : State, s.tb.power = .run → s.tb.vbak = true →
    ∃ t, exec .vsupLoss s = .next t ∧
      t.tb = { s.tb with power := .backup, backupEntry := some s.tb.trip, resetLow := false, scanDue := false } ∧
      t.ps.gateOpen = false ∧ (∀ p, p < 8 → t.probeAt p = { s.probeAt p with edges := none }) ∧
      (∀ z, 1 ≤ z → z ≤ 5 → t.zoneAt z = { s.zoneAt z with sensing := .blind }) ∧
      (∀ c, 1 ≤ c → c ≤ 4 →
        (t.compAt c).doorOpen = false ∧ (t.compAt c).debouncing = false ∧ (t.compAt c).episode = none ∧
          ((s.compAt c).doorOpen = true →
            (t.compAt c).dwellFlag = false ∧ (t.compAt c).dwellDeadline = none ∧
              (t.compAt c).opening = (s.compAt c).opening.map fun o =>
                { o with duration := some (o.duration.getD (s.tb.trip - o.openAt)) }) ∧
          ((s.compAt c).doorOpen = false →
            (t.compAt c).dwellFlag = (s.compAt c).dwellFlag ∧ (t.compAt c).opening = (s.compAt c).opening) ∧
          (t.compAt c).previousEnd =
            (if (s.compAt c).episode.isSome then some s.tb.trip else (s.compAt c).previousEnd) ∧
          (t.compAt c).openings = (s.compAt c).openings ∧ (t.compAt c).overrun = (s.compAt c).overrun ∧
          (t.compAt c).inMask = (s.compAt c).inMask ∧ (t.compAt c).capacity = (s.compAt c).capacity ∧
          (t.compAt c).interlock = (s.compAt c).interlock ∧ (t.compAt c).dwellLimit = (s.compAt c).dwellLimit ∧
          (t.compAt c).raise = (s.compAt c).raise ∧ (t.compAt c).defrostMax = (s.compAt c).defrostMax ∧
          (t.compAt c).spacing = (s.compAt c).spacing) ∧
      t.zm.defrostActive = false ∧ t.pt = s.pt ∧ t.ct = s.ct ∧ t.ae = s.ae ∧ t.hu = { s.hu with parts := [] } ∧
      t.au.attention = s.au.attention ∧
      (∀ i : Fin 2,
        t.au.lines[i].condition = s.au.lines[i].condition ∧ t.au.lines[i].mode = s.au.lines[i].mode ∧
          t.au.lines[i].reference = t.level s.au.lines[i].condition ∧ t.au.lines[i].latch = false ∧
          t.au.lines[i].pulseEnd = none) ∧
      t.attnLow = false ∧ t.pexcOn = false ∧ (∀ i : Fin 2, t.alertHigh i = false) ∧
      (∀ csnLow, t.sdoFloats csnLow = true) ∧
      t.li = { s.li with receive := [], waitRise := false, sdo := none } ∧ t.freeCount = s.freeCount ∧ t.pending = s.pending

/-- VSUP_RETURN in BACKUP enters RUN: the power-return second and the outage length, POWER_RETURN, a crystal retry where
DEGRADED, and the pin reset of every block; each present door is sampled and found open is a door-open event, with an
overrun where an unreported opening is lost; DEFROST is sampled without an episode; ATTN is low and PEXC on (R3, R12, R18,
R37, R61, R169, R170, R176, R177, R182). -/
def Obligations.MainReturnEntersRun : Prop :=
  ∀ (inp : ReturnInputs) (s : State), s.tb.power = .backup →
    ∃ t, exec (.vsupReturn inp) s = .next t ∧
      t.tb =
        { s.tb with
          power := .run
          resetLow := inp.resetLow
          retryOpen := s.tb.degraded
          powerReturn := some s.tb.trip
          outage := s.tb.trip - s.tb.backupEntry.getD 0 } ∧
      t.ps.gateOpen = s.ps.gateOpen ∧
      (∀ p, p < 8 →
        t.probeAt p =
          { s.probeAt p with
            window := [], rejects := 0, edges := none, state := if (s.probeAt p).zone = 0 then .off else .filling }) ∧
      (∀ z, 1 ≤ z → z ≤ 5 → (s.zoneAt z).sensing = .blind → t.zoneAt z = s.zoneAt z) ∧
      (∀ c : Fin 4,
        let k := s.compAt (c.val + 1)
        let k' := t.compAt (c.val + 1)
        (s.compPresent (c.val + 1) = false → k' = k) ∧
          (s.compPresent (c.val + 1) = true ∧ inp.doors[c] = false →
            k' = { k with doorLevel := false, debouncing := false, doorOpen := false }) ∧
          (s.compPresent (c.val + 1) = true ∧ inp.doors[c] = true →
            k' =
              { k with
                doorLevel := true
                debouncing := false
                doorOpen := true
                overrun := k.overrun || k.opening.any fun o => !o.reported
                opening := some ⟨s.tb.trip, none, false⟩
                openings := min (k.openings + 1) 65535
                dwellDeadline := if k.dwellLimit = 0 then none else some (s.tb.trip + k.dwellLimit) })) ∧
      t.zm.defrostActive = inp.defrost ∧ t.pt = s.pt ∧ t.ct = s.ct ∧ t.ae = s.ae ∧ t.hu = { s.hu with parts := [] } ∧
      (∀ x, x ∈ t.au.attention ↔
        x ∈ s.au.attention ∨ x = .powerReturn ∨
          (x = .doorOverrun ∧ ∃ c : Fin 4, s.compPresent (c.val + 1) = true ∧ inp.doors[c] = true ∧
            ∃ o, (s.compAt (c.val + 1)).opening = some o ∧ o.reported = false)) ∧
      (∀ i : Fin 2,
        t.au.lines[i] =
          { s.au.lines[i] with reference := t.level s.au.lines[i].condition, latch := false, pulseEnd := none }) ∧
      t.attnLow = true ∧ t.pexcOn = true ∧ t.li = ⟨[], none, none, false, inp.csnLow, none⟩ ∧
      t.freeCount = s.freeCount ∧ t.pending = s.pending

/-- RESETN_LOW in RUN makes the link inert, SDO at high impedance; PIN_RESET after at least 10 µs low restarts every probe,
holds or blinds each SENSED zone, empties the adoption buffer, re-initialises the link, sets the lines afresh and makes a
crystal retry where DEGRADED; the table, the pass, the profiles, the doors and the attention set stand (R3, R17, R36, R60,
R145, R176, R177, R182). After a shorter low pulse the link becomes live either way, and the rest is either that pin reset or
stands; which of the two is the free value (R17; log entry 3). -/
def Obligations.PinResetKeepsTheTripRecord : Prop :=
  ((∀ s : State, s.tb.power = .run →
        exec .resetnLow s =
          .next { s with
            tb := { s.tb with resetLow := true }
            li := { s.li with receive := [], waitRise := false, sdo := none } }) ∧
      ∀ (us : Nat) (csnLow : Bool) (s : State), 10 ≤ us → s.tb.power = .run → s.tb.resetLow = true →
        ∃ t, exec (.pinReset us csnLow) s = .next t ∧
          t.tb = { s.tb with resetLow := false, retryOpen := s.tb.degraded } ∧
          t.ps.gateOpen = s.ps.gateOpen ∧
          (∀ p, p < 8 →
            t.probeAt p =
              { s.probeAt p with
                window := [], rejects := 0, edges := none, state := if (s.probeAt p).zone = 0 then .off else .filling }) ∧
          (∀ z, 1 ≤ z → z ≤ 5 →
            ((s.zoneAt z).sensing = .sensed ∧ 0 < (s.zoneAt z).hold →
                t.zoneAt z = { s.zoneAt z with sensing := .held (s.tb.trip + (s.zoneAt z).hold) }) ∧
              ((s.zoneAt z).sensing = .sensed ∧ (s.zoneAt z).hold = 0 →
                t.zoneAt z = { s.zoneAt z with sensing := .blind }) ∧
              ((s.zoneAt z).sensing ≠ .sensed → t.zoneAt z = s.zoneAt z)) ∧
          t.zm.comps = s.zm.comps ∧ t.zm.defrostActive = s.zm.defrostActive ∧
          t.zm.defrostLevel = s.zm.defrostLevel ∧ t.zm.defrostDebouncing = s.zm.defrostDebouncing ∧ t.pt = s.pt ∧
          t.ct = s.ct ∧ t.ae = s.ae ∧ t.hu = { s.hu with parts := [] } ∧ t.au.attention = s.au.attention ∧
          (∀ i : Fin 2,
            t.au.lines[i] =
              { s.au.lines[i] with reference := t.level s.au.lines[i].condition, latch := false, pulseEnd := none } ∧
              t.alertHigh i = (decide (s.au.lines[i].mode = .follow) && t.level s.au.lines[i].condition)) ∧
          t.li = ⟨[], none, none, false, csnLow, none⟩ ∧ t.freeCount = s.freeCount ∧ t.pending = s.pending) ∧
    (∀ (us : Nat) (csnLow : Bool) (s : State), us < 10 → s.tb.power = .run → s.tb.resetLow = true →
        ∃ t, exec (.pinReset us csnLow) s = .next t ∧ t.tb.resetLow = false ∧ t.li.waitRise = csnLow ∧
          t.freeCount = s.freeCount + 1 ∧ t.pending = s.pending ∧
          (exec (.pinReset 10 csnLow) s = .next { t with freeCount := s.freeCount } ∨
            t = { s with
              tb := { s.tb with resetLow := false }
              li := { s.li with waitRise := csnLow }
              freeCount := s.freeCount + 1 }))


/-! ### Time base, probe gate, tick pass -/

/-- SECOND_EVENT in RUN or BACKUP: the clock advances by one and saturates; the trim is replaced only at the end of a full
crystal second by a count in 786,432..1,310,720; the last-degraded second follows while DEGRADED; an even second is a
scan in RUN and a multiple of I a tick (R1, R4 to R7). That a scan or tick is noted here and taken as an event of its own
is the model's choice, as is that an expiry of the second that ends, not taken yet, is taken first as its row would
(R154; log entry 5); where none is due, nothing else changes. -/
def Obligations.SecondEventAdvancesTheClock : Prop :=
  ∀ (rc : Nat) (s : State), s.tb.power ≠ .off →
    ∃ t, Happens (.secondEvent rc) s t ∧ ExpiriesTaken s t ∧
      (s.noExpiryDue → t.zm = s.zm ∧ t.ct = s.ct ∧ t.au.attention = s.au.attention) ∧
      t.tb.trip = (if s.tb.trip < 4294967295 then s.tb.trip + 1 else 4294967295) ∧
      ((s.tb.secondOnCrystal = true ∧ 786432 ≤ rc ∧ rc ≤ 1310720 → t.tb.trim = rc) ∧
        (s.tb.secondOnCrystal = false ∨ rc < 786432 ∨ 1310720 < rc → t.tb.trim = s.tb.trim)) ∧
      t.tb.secondOnCrystal = !s.tb.degraded ∧
      (s.tb.degraded = true → t.tb.lastDegraded = some t.tb.trip) ∧
      (s.tb.degraded = false → t.tb.lastDegraded = s.tb.lastDegraded) ∧
      (t.tb.scanDue = true ↔ s.tb.trip < 4294967295 ∧ s.tb.power = .run ∧ 2 ∣ t.tb.trip) ∧
      (t.tb.tickDue = true ↔ s.tb.trip < 4294967295 ∧ ∃ i, s.tb.interval = some i ∧ i ∣ t.tb.trip) ∧
      t.tb =
        { s.tb with
          trip := t.tb.trip, trim := t.tb.trim, secondOnCrystal := t.tb.secondOnCrystal
          lastDegraded := t.tb.lastDegraded, scanDue := t.tb.scanDue, tickDue := t.tb.tickDue } ∧
      t.ps = s.ps ∧ t.pt = s.pt ∧ t.ae = s.ae ∧ t.hu = s.hu

/-- CRYSTAL_STOP while NORMAL makes the time base DEGRADED, names the current second as last-degraded and raises
TIMEBASE_LOST; a retry window ends NORMAL if edges were found, with the last-degraded second and the attention set as
they were, and otherwise stays DEGRADED and raises TIMEBASE_LOST again (R2, R3, R4). -/
def Obligations.CrystalStopAndRetry : Prop :=
  (∀ s : State, s.tb.power ≠ .off → s.tb.degraded = false →
      ∃ t, Happens .crystalStop s t ∧
        t.tb = { s.tb with degraded := true, lastDegraded := some s.tb.trip, secondOnCrystal := false } ∧
        Raised (some .timebaseLost) s t ∧ t.ps = s.ps ∧ t.zm = s.zm ∧ t.pt = s.pt ∧ t.ct = s.ct ∧ t.ae = s.ae ∧
        t.hu = s.hu) ∧
    ∀ (found : Bool) (s : State), s.tb.power ≠ .off → s.tb.retryOpen = true → s.tb.degraded = true →
      ∃ t, Happens (.retryWindowEnd found) s t ∧
        t.tb =
          { s.tb with
            retryOpen := false
            degraded := !found
            secondOnCrystal := if found then false else s.tb.secondOnCrystal } ∧
        Raised (if found then none else some .timebaseLost) s t ∧ t.ps = s.ps ∧ t.zm = s.zm ∧ t.pt = s.pt ∧
        t.ct = s.ct ∧ t.ae = s.ae ∧ t.hu = s.hu

/-- SCAN opens the gate with the count of every probe that is not OFF at 0 and no count for an OFF probe; in the open
gate a rising edge raises the count of its probe alone, up to 65535; an edge on a probe that does not count in the gate
(one that was OFF, or was restarted since) changes nothing but that the lines are stepped, and an edge while the gate is
closed or outside RUN changes nothing at all (R6, R21, R22). -/
def Obligations.ScanAndEdgesCount : Prop :=
  (∀ s : State, s.tb.power = .run → s.tb.scanDue = true →
      ∃ t, Happens .scan s t ∧ t.tb = { s.tb with scanDue := false } ∧ t.ps.gateOpen = true ∧
        (∀ p, p < 8 →
          t.probeAt p = { s.probeAt p with edges := if (s.probeAt p).state = .off then none else some 0 }) ∧
        t.zm = s.zm ∧ t.pt = s.pt ∧ t.ct = s.ct ∧ t.ae = s.ae ∧ t.hu = s.hu ∧ t.au.attention = s.au.attention) ∧
    (∀ (p : Nat) (s : State), s.tb.power ≠ .run ∨ s.ps.gateOpen = false → exec (.probeRisingEdge p) s = .next s) ∧
    (∀ (p : Nat) (s : State), s.tb.power = .run → s.ps.gateOpen = true → p < 8 → (s.probeAt p).edges = none →
      ∃ t, Happens (.probeRisingEdge p) s t ∧ Unmoved s t ∧ t.au.attention = s.au.attention) ∧
    ∀ (p n : Nat) (s : State), s.tb.power = .run → s.ps.gateOpen = true → p < 8 →
      (s.probeAt p).edges = some n → n ≤ 65535 →
      ∃ t, Happens (.probeRisingEdge p) s t ∧ t.ps.gateOpen = true ∧
        t.probeAt p = { s.probeAt p with edges := some (if n = 65535 then 65535 else n + 1) } ∧
        (∀ q, q < 8 → q ≠ p → t.probeAt q = s.probeAt q) ∧ t.tb = s.tb ∧ t.zm = s.zm ∧ t.pt = s.pt ∧ t.ct = s.ct ∧
        t.ae = s.ae ∧ t.hu = s.hu ∧ t.au.attention = s.au.attention

/-- GATE_CLOSE in the scanner: every probe with a count makes one reading, every other probe stands, and PROBE_FAULT is
raised exactly if a probe went from ACTIVE to FAULTED (R21, R23, R25 to R28, R31 to R33). -/
def Obligations.GateCloseReadsTheProbes : Prop :=
  ∀ s : State, s.tb.power = .run → s.ps.gateOpen = true → (∀ p, p < 8 → (s.probeAt p).window.length ≤ 4) →
    ∃ t, Happens .gateClose s t ∧ t.ps.gateOpen = false ∧
      (∀ p, p < 8 →
        ((s.probeAt p).edges = none → t.probeAt p = s.probeAt p) ∧
          ∀ n, (s.probeAt p).edges = some n → (s.probeAt p).state ≠ .off →
            ReadingOutcome n (s.probeAt p) (t.probeAt p)) ∧
      (∀ x, x ∈ t.au.attention ↔
        x ∈ s.au.attention ∨
          (x = .probeFault ∧ ∃ p, p < 8 ∧ (s.probeAt p).state = .active ∧ (t.probeAt p).state = .faulted)) ∧
      t.tb = s.tb ∧ t.zm.comps = s.zm.comps ∧ t.zm.defrostActive = s.zm.defrostActive ∧
      t.zm.defrostLevel = s.zm.defrostLevel ∧ t.zm.defrostDebouncing = s.zm.defrostDebouncing ∧ t.pt = s.pt ∧
      t.ct = s.ct ∧ t.ae = s.ae ∧ t.hu = s.hu

/-- GATE_CLOSE in the zone monitor: every zone that can be named moves by the values of the probes that are ACTIVE and
mapped to it after their readings, every other zone stands (R34, R41, R42, R45). -/
def Obligations.GateCloseMovesTheZones : Prop :=
  ∀ s : State, s.tb.power = .run → s.ps.gateOpen = true →
    ∃ t, Happens .gateClose s t ∧
      ∀ z, 1 ≤ z → z ≤ 5 →
        (s.zonePresent z = true →
          ∃ set : List Int,
            (∀ x, x ∈ set ↔ ∃ p, p < 8 ∧ (t.probeAt p).state = .active ∧ (t.probeAt p).zone = z ∧
              probeValue? (t.probeAt p).window = some x) ∧
            ZoneMoves s.tb.trip set (s.zoneAt z) (t.zoneAt z)) ∧
          (s.zonePresent z = false → t.zoneAt z = s.zoneAt z)

/-- TICK starts a pass at slot 0 with the tick second; a visit settles a LOADED or STAGED record at that second, leaves
every other slot alone and moves on by one slot, the pass ending after slot 47 (R116, R117). -/
def Obligations.TickPassVisitsEverySlot : Prop :=
  (∀ s : State, s.tb.power ≠ .off → s.tb.tickDue = true →
      ∃ t, Happens .tick s t ∧ t.ae = some ⟨s.tb.trip, 0⟩ ∧ t.tb = { s.tb with tickDue := false } ∧ t.ps = s.ps ∧
        t.zm = s.zm ∧ t.pt = s.pt ∧ t.ct = s.ct ∧ t.hu = s.hu ∧ t.au.attention = s.au.attention) ∧
    ∀ (s : State) (second slot : Nat), s.tb.power ≠ .off → s.ae = some ⟨second, slot⟩ → slot < 48 →
      ∃ t, Happens .tickPassVisit s t ∧
        t.ae = (if slot = 47 then none else some ⟨second, slot + 1⟩) ∧
        OthersStand slot s t ∧
        (s.record? slot = none → t.record? slot = none ∧ t.au.attention = s.au.attention) ∧
        (∀ r, s.record? slot = some r →
          (r.isLoaded = true ∨ r.isStaged = true →
              t.record? slot = some (r.settle (s.readings r) second).1 ∧
                Raised (r.settle (s.readings r) second).2 s t) ∧
            (r.isHandover = true ∨ r.isClosed = true →
              t.record? slot = some r ∧ t.au.attention = s.au.attention)) ∧
        t.ct.index = s.ct.index ∧ t.ct.members = s.ct.members ∧ t.ct.stage = s.ct.stage ∧ t.tb = s.tb ∧
        t.ps = s.ps ∧ t.zm = s.zm ∧ t.pt = s.pt ∧ t.hu = s.hu

/-! ### Timers, doors, defrost, deadlines -/

/-- At their second a HELD zone's hold deadline makes it BLIND with its figures kept, an open door's dwell deadline sets
the dwell flag and raises DOOR_DWELL, an episode's allowance expiry ends the allowance alone and raises DEFROST_OVERRUN,
and in RUN a pulse ends at the end of the start it awaits, and no other end does anything: with a false-to-true change at
the instant of a running pulse's end the line is high, awaiting the end of the new start, whichever is taken first (R43,
R49, R55, R173; that PULSE_END names its start by a number is the model's choice, log entry 8). -/
def Obligations.TimersExpire : Prop :=
  (∀ (z : Nat) (s : State), s.tb.power ≠ .off → 1 ≤ z → z ≤ 5 → (s.zoneAt z).sensing = .held s.tb.trip →
      ∃ t, Happens (.holdExpiry z) s t ∧ t.zoneAt z = { s.zoneAt z with sensing := .blind } ∧
        (∀ y, y ≠ z → t.zoneAt y = s.zoneAt y) ∧ t.zm.comps = s.zm.comps ∧
        t.zm.defrostActive = s.zm.defrostActive ∧ t.tb = s.tb ∧ t.ps = s.ps ∧ t.pt = s.pt ∧ t.ct = s.ct ∧
        t.ae = s.ae ∧ t.hu = s.hu ∧ t.au.attention = s.au.attention) ∧
    (∀ (c : Nat) (s : State), s.tb.power ≠ .off → s.compPresent c = true → (s.compAt c).doorOpen = true →
      (s.compAt c).dwellDeadline = some s.tb.trip →
      ∃ t, Happens (.dwellExpiry c) s t ∧
        t.compAt c = { s.compAt c with dwellFlag := true, dwellDeadline := none } ∧
        (∀ d, d ≠ c → t.compAt d = s.compAt d) ∧ Raised (some .doorDwell) s t ∧ t.zm.zones = s.zm.zones ∧
        t.zm.defrostActive = s.zm.defrostActive ∧ t.tb = s.tb ∧ t.ps = s.ps ∧ t.pt = s.pt ∧ t.ct = s.ct ∧
        t.ae = s.ae ∧ t.hu = s.hu) ∧
    (∀ (c start raise : Nat) (s : State), s.tb.power ≠ .off → s.compPresent c = true →
      (s.compAt c).episode = some ⟨start, some ⟨raise, s.tb.trip⟩⟩ →
      ∃ t, Happens (.allowanceExpiry c) s t ∧ t.compAt c = { s.compAt c with episode := some ⟨start, none⟩ } ∧
        (∀ d, d ≠ c → t.compAt d = s.compAt d) ∧ Raised (some .defrostOverrun) s t ∧ t.zm.zones = s.zm.zones ∧
        t.zm.defrostActive = s.zm.defrostActive ∧ t.tb = s.tb ∧ t.ps = s.ps ∧ t.pt = s.pt ∧ t.ct = s.ct ∧
        t.ae = s.ae ∧ t.hu = s.hu) ∧
    (∀ (l : Fin 2) (n : Nat) (s : State), s.tb.power = .run → s.linesCurrent →
      (s.au.lines[l].pulseEnd ≠ some n → exec (.pulseEnd ⟨l, n⟩) s = .next s) ∧
        (s.au.lines[l].pulseEnd = some n →
          ∃ t, exec (.pulseEnd ⟨l, n⟩) s = .next t ∧ t.au.lines[l] = { s.au.lines[l] with pulseEnd := none } ∧
            (s.au.lines[l].mode = .pulse → t.alertHigh l = false) ∧
            (∀ m : Fin 2, m ≠ l → t.au.lines[m] = s.au.lines[m]) ∧ Unmoved s t ∧ t.au.attention = s.au.attention ∧
            t.li = s.li ∧ t.freeCount = s.freeCount ∧ t.pending = s.pending)) ∧
    ∀ (l : Fin 2) (n : Nat) (i : Instr) (s t s' t' : State), s.tb.power = .run → s.linesCurrent → s.pulsesNumbered →
      s.au.lines[l].mode = .pulse → s.au.lines[l].pulseEnd = some n → s.au.lines[l].reference = false →
      exec i s = .next s' → LinesStepped s s' → s'.tb.power = .run → s'.level s.au.lines[l].condition = true →
      exec (.pulseEnd ⟨l, n⟩) s = .next t →
      exec i t = .next t' → LinesStepped t t' → t'.tb.power = .run → t'.level s.au.lines[l].condition = true →
      exec (.pulseEnd ⟨l, n⟩) s' = .next s' ∧
        ∀ u ∈ [s', t'], u.alertHigh l = true ∧ u.au.lines[l].pulseEnd = some s.au.lines[l].pulses

/-- In RUN a level change at a present door starts its debounce; stable at the open level with the door closed it is the
door-open event, which counts the opening, begins its record and dwell deadline and marks and raises the overrun of an
unreported one; stable at the closed level with the door open it is the door-close event, which completes the opening
and clears the dwell state (R46, R47, R48). -/
def Obligations.DoorsOpenAndClose : Prop :=
  ∀ (c : Nat) (s : State), s.tb.power = .run → s.compPresent c = true →
    ((∀ level, (s.compAt c).doorLevel = !level →
        ∃ t, Happens (.doorInputChange c level) s t ∧
          t.compAt c = { s.compAt c with doorLevel := level, debouncing := true } ∧
          (∀ d, d ≠ c → t.compAt d = s.compAt d) ∧ t.zm.zones = s.zm.zones ∧
          t.zm.defrostActive = s.zm.defrostActive ∧ t.tb = s.tb ∧ t.ps = s.ps ∧ t.pt = s.pt ∧ t.ct = s.ct ∧
          t.ae = s.ae ∧ t.hu = s.hu ∧ t.au.attention = s.au.attention) ∧
      ((s.compAt c).debouncing = true ∧ (s.compAt c).doorLevel = true ∧ (s.compAt c).doorOpen = false →
        ∃ t, Happens (.doorOpen c) s t ∧
          t.compAt c =
            { s.compAt c with
              debouncing := false
              doorOpen := true
              overrun := (s.compAt c).overrun || (s.compAt c).opening.any fun o => !o.reported
              opening := some ⟨s.tb.trip, none, false⟩
              openings := min ((s.compAt c).openings + 1) 65535
              dwellDeadline :=
                if (s.compAt c).dwellLimit = 0 then none else some (s.tb.trip + (s.compAt c).dwellLimit) } ∧
          (∀ d, d ≠ c → t.compAt d = s.compAt d) ∧
          Raised (if (s.compAt c).opening.any fun o => !o.reported then some .doorOverrun else none) s t ∧
          t.zm.zones = s.zm.zones ∧ t.zm.defrostActive = s.zm.defrostActive ∧ t.tb = s.tb ∧ t.ps = s.ps ∧
          t.pt = s.pt ∧ t.ct = s.ct ∧ t.ae = s.ae ∧ t.hu = s.hu) ∧
      ((s.compAt c).debouncing = true ∧ (s.compAt c).doorLevel = false ∧ (s.compAt c).doorOpen = true →
        ∃ t, Happens (.doorClose c) s t ∧
          t.compAt c =
            { s.compAt c with
              debouncing := false
              doorOpen := false
              dwellFlag := false
              dwellDeadline := none
              opening := (s.compAt c).opening.map fun o =>
                { o with duration := some (o.duration.getD (s.tb.trip - o.openAt)) } } ∧
          (∀ d, d ≠ c → t.compAt d = s.compAt d) ∧ t.au.attention = s.au.attention ∧ t.zm.zones = s.zm.zones ∧
          t.zm.defrostActive = s.zm.defrostActive ∧ t.tb = s.tb ∧ t.ps = s.ps ∧ t.pt = s.pt ∧ t.ct = s.ct ∧
          t.ae = s.ae ∧ t.hu = s.hu))

/-- In RUN a level change on DEFROST starts its debounce; the rise starts an episode in each compartment of the mask,
with an allowance of raise A to now + M where the spacing has passed, and DEFROST_OVERRUN raised where one is refused;
the fall ends every episode at now (R53, R54, R56). -/
def Obligations.DefrostRisesAndFalls : Prop :=
  ∀ s : State, s.tb.power = .run →
    ((∀ level, s.zm.defrostLevel = !level →
        ∃ t, Happens (.defrostInputChange level) s t ∧
          t.zm = { s.zm with defrostLevel := level, defrostDebouncing := true } ∧ t.tb = s.tb ∧ t.ps = s.ps ∧
          t.pt = s.pt ∧ t.ct = s.ct ∧ t.ae = s.ae ∧ t.hu = s.hu ∧ t.au.attention = s.au.attention) ∧
      (s.zm.defrostDebouncing = true ∧ s.zm.defrostLevel = true ∧ s.zm.defrostActive = false →
        ∃ t, Happens .defrostRise s t ∧ t.zm.defrostActive = true ∧ t.zm.defrostDebouncing = false ∧
          (∀ c, 1 ≤ c → c ≤ 4 →
            let k := s.compAt c
            let due := ∀ e, k.previousEnd = some e → k.spacing ≤ s.tb.trip - e
            (s.compPresent c = true ∧ k.inMask = true ∧ due →
                t.compAt c =
                  { k with episode := some ⟨s.tb.trip, some ⟨k.raise, s.tb.trip + k.defrostMax⟩⟩ }) ∧
              (s.compPresent c = true ∧ k.inMask = true ∧ ¬due →
                t.compAt c = { k with episode := some ⟨s.tb.trip, none⟩ }) ∧
              (s.compPresent c = false ∨ k.inMask = false → t.compAt c = k)) ∧
          (∀ x, x ∈ t.au.attention ↔
            x ∈ s.au.attention ∨
              (x = .defrostOverrun ∧ ∃ c, 1 ≤ c ∧ c ≤ 4 ∧ s.compPresent c = true ∧ (s.compAt c).inMask = true ∧
                ∃ e, (s.compAt c).previousEnd = some e ∧ s.tb.trip - e < (s.compAt c).spacing)) ∧
          t.zm.zones = s.zm.zones ∧ t.tb = s.tb ∧ t.ps = s.ps ∧ t.pt = s.pt ∧ t.ct = s.ct ∧ t.ae = s.ae ∧
          t.hu = s.hu) ∧
      (s.zm.defrostDebouncing = true ∧ s.zm.defrostLevel = false ∧ s.zm.defrostActive = true →
        ∃ t, Happens .defrostFall s t ∧ t.zm.defrostActive = false ∧ t.zm.defrostDebouncing = false ∧
          (∀ c, 1 ≤ c → c ≤ 4 →
            (s.compPresent c = true ∧ (s.compAt c).episode.isSome = true →
                t.compAt c = { s.compAt c with episode := none, previousEnd := some s.tb.trip }) ∧
              (s.compPresent c = false ∨ (s.compAt c).episode = none → t.compAt c = s.compAt c)) ∧
          t.au.attention = s.au.attention ∧ t.zm.zones = s.zm.zones ∧ t.tb = s.tb ∧ t.ps = s.ps ∧ t.pt = s.pt ∧
          t.ct = s.ct ∧ t.ae = s.ae ∧ t.hu = s.hu))

/-- DEADLINE_LAPSE at a frozen record's deadline, in RUN and in BACKUP alike: the frozen interval charged blind, the
status evaluated and a rise folded and raised, the LAPSE step folded, the hand-off-lapsed mark set, the record STAGED at
its position, HANDOVER_LAPSED raised (R140, R142, R144, R83). -/
def Obligations.DeadlineLapseReturnsToTheStage : Prop :=
  ∀ (h frozenAt : Nat) (r : Record) (s : State), s.tb.power ≠ .off → s.record? h = some r →
    r.custody = .handover frozenAt s.tb.trip → frozenAt < s.tb.trip →
    let f := s.tb.trip - frozenAt
    let timing :=
      r.marks.timing || s.tb.degraded || s.tb.lastDegraded.any fun d => decide (frozenAt ≤ d)
    let charged : Record :=
      { r with
        blindSeconds := min (r.blindSeconds + f) 4294967295
        custodySeconds := min (r.custodySeconds + f) 4294967295
        custody := .staged s.tb.trip
        marks := { r.marks with timing := timing } }
    let evaluated := charged.evaluate (s.profileAt r.profile)
    ∃ t, Happens (.deadlineLapse h) s t ∧
      t.record? h =
        some { evaluated.1 with
          fold := crcBytes evaluated.1.fold
            ([10, 5, 5, BitVec.ofNat 8 evaluated.1.status.ordinal] ++ nat32 evaluated.1.custodySeconds)
          marks := { charged.marks with lapsed := true } } ∧
      OthersStand h s t ∧
      (∀ x, x ∈ t.au.attention ↔ x ∈ s.au.attention ∨ x = .handoverLapsed ∨ evaluated.2 = some x) ∧
      t.ct.index = s.ct.index ∧ t.ct.members = s.ct.members ∧ t.ct.stage = s.ct.stage ∧ t.tb = s.tb ∧ t.ps = s.ps ∧
      t.zm = s.zm ∧ t.pt = s.pt ∧ t.ae = s.ae ∧ t.hu = s.hu

/-! ### The link -/

/-- While the link is inert every command transaction, response read and short transaction does nothing, and SDO is at
high impedance, as it is while CSN is high (R177); while the link waits for CSN to rise each of them ends that wait (log
entry 13) and does nothing else, what SDO did meanwhile being a free value (log entry 15); otherwise fewer than 8 bits
change nothing, SDO having shifted out no whole byte (R177; the record of SDO is log entry 15). A command transaction that
ends while a command is executing is discarded unexamined, whatever it is: the overrun flag is set, FFh was on SDO, and
nothing else changes (R177, R183). -/
def Obligations.InertAndBusyLinkTakeNoCommand : Prop :=
  (∀ (i : Instr) (s : State),
      (i.frame?.isSome = true ∨ (∃ w, i = .frameDiscarded w) ∨ (∃ b, i = .shortTransaction b) ∨
        ∃ n, i = .responseRead n) →
      (s.tb.power ≠ .run ∨ s.tb.resetLow = true → exec i s = .next s) ∧
        (s.tb.power = .run ∧ s.tb.resetLow = false ∧ s.li.waitRise = true →
          exec i s =
            .next { s with
              li := { s.li with receive := [], waitRise := false, sdo := Config.ignoredSdo s.freeCount }
              freeCount := s.freeCount + 1 }) ∧
        (s.tb.power = .run ∧ s.tb.resetLow = false ∧ s.li.waitRise = false →
          ∀ b, i = .shortTransaction b → exec i s = .next { s with li := { s.li with sdo := some [] } })) ∧
    (∀ (s : State) (csnLow : Bool),
      (s.tb.power ≠ .run ∨ s.tb.resetLow = true ∨ csnLow = false → s.sdoFloats csnLow = true) ∧
        (s.tb.power = .run ∧ s.tb.resetLow = false ∧ csnLow = true ∧ s.li.waitRise = false →
          s.sdoFloats csnLow = false)) ∧
    ∀ (s : State), s.tb.power = .run → s.tb.resetLow = false → s.li.waitRise = false → s.li.executing.isSome = true →
      (∀ whole, exec (.frameDiscarded whole) s =
          .next { s with
            li := { s.li with receive := [], overrun := true, sdo := some (List.replicate whole 0xFF) } }) ∧
        ∀ (i : Instr) (fr : Frame), i.frame? = some fr →
          exec i s =
            .next { s with
              li := { s.li with receive := [], overrun := true, sdo := some (List.replicate fr.whole 0xFF) } }

/-! ### Conditions and output pins -/

/-- What the eight alert conditions read (R171), and how the pins follow in RUN: a FOLLOW line is high exactly while its
condition is true, a LATCH line while its latch is set, a PULSE line while its pulse runs (R173); ATTN is low exactly
while a kind is present (R169); outside RUN the lines, PEXC and ATTN are off (R18, R169, R176). -/
def Obligations.ConditionsReadTheStateAndPinsFollow : Prop :=
  ∀ s : State,
    ((s.level .newBreak = true ↔ .recordBreak ∈ s.au.attention) ∧
      (s.level .atRiskPresent = true ↔
        ∃ h r, s.record? h = some r ∧ (∀ k, r.custody ≠ .closed k) ∧ r.status ≠ .intact) ∧
      (s.level .blindZone = true ↔
        ∃ z, 1 ≤ z ∧ z ≤ 5 ∧ (s.zoneAt z).sensing = .blind ∧
          ((z = 5 ∧ s.ct.stage ≠ []) ∨ (z ≠ 5 ∧ s.membersOf z ≠ []))) ∧
      (s.level .doorDwell = true ↔ ∃ c, s.compPresent c = true ∧ (s.compAt c).dwellFlag = true) ∧
      (s.level .timebaseDegraded = true ↔ s.tb.degraded = true) ∧
      (s.level .probeFault = true ↔ ∃ p, p < 8 ∧ (s.probeAt p).state = .faulted) ∧
      (s.level .handoverPending = true ↔ ∃ h r f d, s.record? h = some r ∧ r.custody = .handover f d) ∧
      (s.level .tableNearFull = true ↔ s.ct.slots.toList.countP Option.isNone ≤ 4)) ∧
    (∀ l : Fin 2,
      (s.tb.power = .run →
          (s.au.lines[l].mode = .follow → (s.alertHigh l = true ↔ s.level s.au.lines[l].condition = true)) ∧
            (s.au.lines[l].mode = .latch → (s.alertHigh l = true ↔ s.au.lines[l].latch = true)) ∧
            (s.au.lines[l].mode = .pulse → (s.alertHigh l = true ↔ ∃ e, s.au.lines[l].pulseEnd = some e))) ∧
        (s.tb.power ≠ .run → s.alertHigh l = false)) ∧
    (s.attnLow = true ↔ s.tb.power = .run ∧ s.au.attention ≠ []) ∧ (s.pexcOn = true ↔ s.tb.power = .run)

/-! ### Responses and frames -/

/-- RESPONSE_READ shifts out FFh, then result code, flags, length and payload, then 00h: the held
response, PENDING while a command executes, or NO_RESPONSE; it changes nothing else. RESPONSE_READY in RUN forms the
response in the holding buffer with the overrun flag and the attention state of that moment and clears the pending flag, with
RESETN low too; in BACKUP the response is not formed and the pending flag alone is cleared (both log entry 16). The result
codes have the numbers of R184 (R177, R180, R181, R182, R184; the record of SDO is log entry 15). -/
def Obligations.ResponsesAreFormedAndRead : Prop :=
  (∀ (n : Nat) (s : State), s.tb.power = .run → s.tb.resetLow = false → s.li.waitRise = false → 1 ≤ n →
      ∃ t, exec (.responseRead n) s = .next t ∧ t = { s with li := { s.li with receive := [], sdo := t.li.sdo } } ∧
        ∃ bytes, t.li.sdo = some bytes ∧ bytes.length = n ∧ ∀ k, k < n →
          let attention : Byte := if s.au.attention = [] then 0 else 2
          let overrun : Byte := if s.li.overrun then 1 else 0
          let number : ResultCode → Byte := fun code =>
            match code with
              | .ok => 0x00
              | .pending => 0x01
              | .noResponse => 0x02
              | .framing => 0x03
              | .unknownCommand => 0x04
              | .range => 0x05
              | .notReady => 0x06
              | .alreadyFixed => 0x07
              | .noProfile => 0x08
              | .inUse => 0x09
              | .duplicate => 0x0A
              | .tableFull => 0x0B
              | .zoneFull => 0x0C
              | .notFound => 0x0D
              | .staleHandle => 0x0E
              | .wrongState => 0x0F
              | .mismatch => 0x10
              | .doorClosed => 0x11
              | .late => 0x12
              | .sequence => 0x13
              | .badCheck => 0x14
              | .badImage => 0x15
          let frame : List Byte :=
            match s.li.executing, s.li.response with
            | some _, _ => [0x01, overrun ||| attention, 0]
            | none, some r => [number r.code, r.flags, BitVec.ofNat 8 r.payload.length] ++ r.payload
            | none, none => [0x02, attention, 0]
          bytes[k]? = some (if k = 0 then 0xFF else frame.getD (k - 1) 0x00)) ∧
    (∀ (r : Reply) (s : State), s.li.executing = some r →
        (s.tb.power = .run →
          exec .responseReady s =
            .next { s with
              li :=
                { s.li with
                  executing := none
                  response :=
                    some ⟨r.code, (if s.li.overrun then 1 else 0) ||| (if s.au.attention = [] then 0 else 2),
                      r.payload⟩ } }) ∧
          (s.tb.power = .backup → exec .responseReady s = .next { s with li := { s.li with executing := none } }))


/-- The frame checks in their order on a ready link: FRAMING for a wrong count of whole bytes, a length above 40, stray
bits or a single byte; then UNKNOWN_COMMAND for an unlisted code; then FRAMING for a length that is not the code's. Such
a command reaches no block, and is in every other way a command taken (R178, R180). -/
def Obligations.FrameChecksInOrder : Prop :=
  ∀ (i : Instr) (code : Byte) (fr : Frame) (s : State), s.ready → i.code? = some code → i.frame? = some fr →
    let refusedWith := fun c : ResultCode =>
      exec i s =
        .next { s with
          li := ⟨[], none, some ⟨c, []⟩, false, false, some (List.replicate fr.whole 0xFF)⟩ }
    (fr.whole ≠ 2 + fr.len.toNat ∨ 40 < fr.len.toNat ∨ fr.stray ≠ 0 ∨ fr.whole = 1 → refusedWith .framing) ∧
      (fr.whole = 2 + fr.len.toNat ∧ fr.len.toNat ≤ 40 ∧ fr.stray = 0 →
        (payloadLength? code = none → refusedWith .unknownCommand) ∧
          ∀ n, payloadLength? code = some n → n ≠ fr.len.toNat → refusedWith .framing)

/-! ### Queries -/

/-- STATUS answers the 22 bytes of identity and state, formed after every expiry of the present second, and changes no
block; an expiry not taken yet is taken before it, as its row would (that the step of the query takes it is the model's
choice, log entry 5). ATTENTION answers the mask of the kinds present and empties the set, in one step. ATTN is low while
the set is not empty (R154, R165, R168, R169). -/
def Obligations.StatusAndAttentionReport : Prop :=
  let shows := fun (mask : Word16) (set : List Kind) =>
    ∀ k, k < 16 → (mask.getLsbD k = true ↔ ∃ x ∈ set, k =
      match x with
      | .coldStart => 0
      | .powerReturn => 1
      | .recordBreak => 2
      | .unproven => 3
      | .probeFault => 4
      | .timebaseLost => 5
      | .handoverLapsed => 6
      | .doorDwell => 7
      | .doorOverrun => 8
      | .defrostOverrun => 9)
  (∀ s : State, s.ready →
      ∃ t mask, Carried (.status (Frame.exact 0)) 0 s t
          ⟨.ok, [0xC4, 0x8A, 0x01] ++ nat32 s.tb.trip ++
            [BitVec.ofNat 8 (s.tb.interval.getD 0), if s.tb.degraded then 1 else 0] ++
            nat32 (s.tb.powerReturn.getD 4294967295) ++ nat32 s.tb.outage ++
            [BitVec.ofNat 8 s.tb.presentCount, BitVec.ofNat 8 (t.ct.slots.toList.countP Option.isNone),
              BitVec.ofNat 8 (t.ct.slots.toList.countP fun x => x.any Record.isClosed)] ++ bytes16 mask⟩ ∧
        shows mask t.au.attention ∧ (t.attnLow = true ↔ t.au.attention ≠ []) ∧ ExpiriesTaken s t ∧ t.tb = s.tb ∧
        t.ps = s.ps ∧ t.pt = s.pt ∧ t.ae = s.ae ∧ t.hu = s.hu ∧
        (s.noExpiryDue → Unmoved s t ∧ t.au.attention = s.au.attention)) ∧
    (∀ s : State, s.ready →
        ∃ t mask, Carried (.attention (Frame.exact 0)) 0 s t ⟨.ok, bytes16 mask⟩ ∧
          shows mask s.au.attention ∧ t.au.attention = [] ∧ t.attnLow = false ∧ Unmoved s t)


/-- FIND answers the handle of the record that holds the ID, in any state but FREE, and NOT_FOUND otherwise; VIEW answers
the 34-byte view of the record in a slot, RANGE above 47 and STALE_HANDLE for a FREE slot (R155, R156, R157, R185). -/
def Obligations.FindAndViewReachTheRecord : Prop :=
  (∀ (id : Word32) (s : State), s.ready → s.indexed →
      (∀ h r, s.record? h = some r → r.id = id →
        ∃ t, Carried (.find (Frame.exact 4) id) 4 s t ⟨.ok, [BitVec.ofNat 8 h]⟩ ∧ Unmoved s t ∧
          t.au.attention = s.au.attention) ∧
        ((∀ h r, s.record? h = some r → r.id ≠ id) → Refuses (.find (Frame.exact 4) id) 4 s .notFound)) ∧
    ∀ (h : Byte) (s : State), s.ready →
      RefusedInOrder (.view (Frame.exact 1) h) 1 s
          [(47 < h.toNat, .range), (s.record? h.toNat = none, .staleHandle)] ∧
        ∀ r, s.record? h.toNat = some r →
          let state : Nat :=
            match r.custody with
            | .loaded _ _ => 1
            | .staged _ => 2
            | .handover _ _ => 3
            | .closed .delivered => 4 + 16 * 1
            | .closed .handedOver => 4 + 16 * 2
            | .closed .writtenOff => 4 + 16 * 3
          let place : Nat :=
            match r.custody with
            | .loaded c _ => c
            | .staged _ => 5
            | .handover _ _ => 5
            | .closed _ => 6
          let status : Nat :=
            match r.status with
            | .intact => 0
            | .atRisk => 1
            | .unproven => 2
            | .broken _ => 3
          ∃ t flags, Carried (.view (Frame.exact 1) h) 1 s t
              ⟨.ok, [h, BitVec.ofNat 8 state, BitVec.ofNat 8 place,
                BitVec.ofNat 8 r.profile, flags, BitVec.ofNat 8 r.handOffs] ++ bytes32 r.id ++
                nat32 r.upperExposure ++ nat32 r.lowerExposure ++ nat32 r.blindSeconds ++ nat32 r.custodySeconds ++
                nat32 (match r.status with
                  | .intact => 4294967295
                  | .atRisk => 4294967295
                  | .unproven => 4294967295
                  | .broken b => b) ++ nat16 r.peakExcess ++ bytes16 r.fold⟩ ∧
            flags.toNat =
              status + 4 * r.marks.timing.toNat + 8 * r.marks.adopted.toNat +
                16 * r.marks.aboveNow.toNat + 32 * r.marks.belowNow.toNat + 64 * r.marks.lapsed.toNat ∧
            Unmoved s t ∧ t.au.attention = s.au.attention

/-- SURVEY answers the first 32 handles, in ascending slot order from the start slot, of the records whose field meets
the condition, with the slot to go on from where the 32nd lay below slot 47 and FFh otherwise; RANGE for a number out of
range (R158, R159). -/
def Obligations.SurveyPagesTheTable : Prop :=
  ∀ (f c : Byte) (v : Word32) (start : Byte) (s : State), s.ready →
    (8 < f.toNat ∨ 3 < c.toNat ∨ 47 < start.toNat →
        Refuses (.survey (Frame.exact 7) f c v start) 7 s .range) ∧
      (f.toNat ≤ 8 → c.toNat ≤ 3 → start.toNat ≤ 47 →
        ∃ (t : State) (page rest : List Nat) (next : Byte),
          Carried (.survey (Frame.exact 7) f c v start) 7 s t
            ⟨.ok, [BitVec.ofNat 8 page.length, next] ++ page.map (BitVec.ofNat 8)⟩ ∧
          Unmoved s t ∧ t.au.attention = s.au.attention ∧
          (page ++ rest).Pairwise (· < ·) ∧ page.length ≤ 32 ∧ (rest ≠ [] → page.length = 32) ∧
          (∀ h, h ∈ page ++ rest ↔
            start.toNat ≤ h ∧ ∃ r, s.record? h = some r ∧
              let field : Nat :=
                match f.toNat with
                | 0 =>
                  match r.custody with
                  | .loaded c _ => c
                  | .staged _ => 5
                  | .handover _ _ => 5
                  | .closed _ => 6
                | 1 =>
                  match r.custody with
                  | .loaded _ _ => 1
                  | .staged _ => 2
                  | .handover _ _ => 3
                  | .closed _ => 4
                | 2 =>
                  match r.status with
                  | .intact => 0
                  | .atRisk => 1
                  | .unproven => 2
                  | .broken _ => 3
                | 3 => r.profile
                | 4 => r.upperExposure
                | 5 => r.lowerExposure
                | 6 => r.blindSeconds
                | 7 => r.custodySeconds
                | _ => r.peakExcess
              (c = 0 → field = v.toNat) ∧ (c = 1 → field ≠ v.toNat) ∧ (c = 2 → v.toNat ≤ field) ∧
                (c = 3 → field < v.toNat)) ∧
          (page.length = 32 ∧ page.getLastD 0 < 47 → next = BitVec.ofNat 8 (page.getLastD 0 + 1)) ∧
          (page.length < 32 ∨ page.getLastD 0 = 47 → next = 0xFF))

/-- ZONE, PROBE, PROFILE and DOOR answer RANGE for a number out of range, otherwise the figures of
the zone, probe, entry or compartment in the layout of their rules; they change no block, but that DOOR then sets the
reported flag of its compartment's opening and clears its overrun mark (R50, R69, R154, R161 to R164). -/
def Obligations.ZonesProbesProfilesAndDoorsAreReported : Prop :=
  ((∀ (z : Byte) (s : State), s.ready →
        (s.zonePresent z.toNat = false → Refuses (.zone (Frame.exact 1) z) 1 s .range) ∧
          (s.zonePresent z.toNat = true →
            let zn := s.zoneAt z.toNat
            let k := s.compAt z.toNat
            let members := if z = 5 then s.ct.stage else s.membersOf z.toNat
            let flags : Nat :=
              if z = 5 then 0
              else
                k.doorOpen.toNat + 2 * k.dwellFlag.toNat + 4 * k.episode.isSome.toNat +
                  8 * (k.episode.any fun e => e.allowance.isSome).toNat
            ∃ t, Carried (.zone (Frame.exact 1) z) 1 s t
                ⟨.ok, [z, match zn.sensing with
                    | .sensed => 0
                    | .held _ => 1
                    | .blind => 2] ++ int16 zn.airMax ++ int16 zn.airMin ++ int16 zn.warm ++ int16 zn.cold ++
                  [BitVec.ofNat 8 flags, BitVec.ofNat 8 members.length] ++ members.map (BitVec.ofNat 8)⟩ ∧
              Unmoved s t ∧ t.au.attention = s.au.attention)) ∧
      (∀ (p : Byte) (s : State), s.ready →
        (7 < p.toNat → Refuses (.probe (Frame.exact 1) p) 1 s .range) ∧
          (p.toNat ≤ 7 → (s.probeAt p.toNat).window.length ≤ 4 →
            let k := s.probeAt p.toNat
            let shown := fun x : Option Int =>
              match x with
              | none => [0x80, 0x00]
              | some x => int16 x
            ∃ t, Carried (.probe (Frame.exact 1) p) 1 s t
                ⟨.ok, [p, match k.state with
                    | .off => 0
                    | .filling => 1
                    | .active => 2
                    | .faulted => 3, BitVec.ofNat 8 k.zone, BitVec.ofNat 8 k.rejects, if k.clamped then 1 else 0] ++
                  nat16 k.lastCount ++ int32 k.lastTemp ++ [BitVec.ofNat 8 k.window.length] ++
                  shown (probeValue? k.window) ++ shown k.window[0]? ++ shown k.window[1]? ++ shown k.window[2]? ++
                  shown k.window[3]?⟩ ∧
              Unmoved s t ∧ t.au.attention = s.au.attention)) ∧
      ∀ (i : Byte) (s : State), s.ready →
        (7 < i.toNat → Refuses (.profile (Frame.exact 1) i) 1 s .range) ∧
          (i.toNat ≤ 7 →
            let p := s.profileAt i.toNat
            ∃ t, Carried (.profile (Frame.exact 1) i) 1 s t
                ⟨.ok, [i, if p.defined then 1 else 0, BitVec.ofNat 8 p.useCount] ++ int16 p.upper ++ int16 p.lower ++
                  nat32 p.upperBudget ++ nat32 p.lowerBudget ++ nat32 p.blindAllowance⟩ ∧
              Unmoved s t ∧ t.au.attention = s.au.attention)) ∧
    (∀ (c : Byte) (s : State), s.ready →
        (s.compPresent c.toNat = false → Refuses (.door (Frame.exact 1) c) 1 s .range) ∧
          (s.compPresent c.toNat = true →
            let k := s.compAt c.toNat
            let flags : Nat :=
              k.doorOpen.toNat + 2 * k.overrun.toNat + 4 * k.dwellFlag.toNat + 8 * k.opening.isSome.toNat +
                16 * (k.opening.any fun o => o.reported).toNat
            ∃ t, Carried (.door (Frame.exact 1) c) 1 s t
                ⟨.ok, [c, BitVec.ofNat 8 flags] ++ nat16 k.openings ++
                  nat32 ((k.opening.map fun o => o.openAt).getD 4294967295) ++
                  nat32 ((k.opening.bind fun o => o.duration).getD 4294967295)⟩ ∧
              t.compAt c.toNat =
                { k with opening := k.opening.map fun o => { o with reported := true }, overrun := false } ∧
              (∀ d, d ≠ c.toNat → t.compAt d = s.compAt d) ∧ t.zm.zones = s.zm.zones ∧
              t.zm.defrostActive = s.zm.defrostActive ∧ t.zm.defrostLevel = s.zm.defrostLevel ∧
              t.zm.defrostDebouncing = s.zm.defrostDebouncing ∧ t.tb = s.tb ∧ t.ps = s.ps ∧ t.pt = s.pt ∧ t.ct = s.ct ∧
              t.ae = s.ae ∧ t.hu = s.hu ∧ t.au.attention = s.au.attention))


/-! ### Settings -/

/-- FIX_TICK: ALREADY_FIXED once I is fixed, whatever the value; RANGE for a value that is not 10, 15, 20, 30 or 60;
otherwise I takes the value. SET_HANDOVER: RANGE outside 30..3600; otherwise the window takes the value and no running
deadline moves (R9, R134). -/
def Obligations.TickIntervalAndWindowAreSet : Prop :=
  (∀ (v : Byte) (s : State), s.ready →
      RefusedInOrder (.fixTick (Frame.exact 1) v) 1 s
          [(s.tb.interval ≠ none, .alreadyFixed), (v.toNat ∉ [10, 15, 20, 30, 60], .range)] ∧
        (s.tb.interval = none → v.toNat ∈ [10, 15, 20, 30, 60] →
          ∃ t, Carried (.fixTick (Frame.exact 1) v) 1 s t ⟨.ok, []⟩ ∧
            t.tb = { s.tb with interval := some v.toNat } ∧ t.ps = s.ps ∧ t.zm = s.zm ∧ t.pt = s.pt ∧ t.ct = s.ct ∧
            t.ae = s.ae ∧ t.hu = s.hu ∧ t.au.attention = s.au.attention)) ∧
    ∀ (w : Word16) (s : State), s.ready →
      (w.toNat < 30 ∨ 3600 < w.toNat → Refuses (.setHandover (Frame.exact 2) w) 2 s .range) ∧
        (30 ≤ w.toNat ∧ w.toNat ≤ 3600 →
          ∃ t, Carried (.setHandover (Frame.exact 2) w) 2 s t ⟨.ok, []⟩ ∧ t.hu = { s.hu with window := w.toNat } ∧
            t.tb = s.tb ∧ t.ps = s.ps ∧ t.zm = s.zm ∧ t.pt = s.pt ∧ t.ct = s.ct ∧ t.ae = s.ae ∧
            t.au.attention = s.au.attention)

/-- SET_PROBE: RANGE for a probe above 7, a zone that cannot be named, or a gain of 0 or outside −4095..+4095; otherwise
zone, zero count and gain are stored, the window emptied, S 0, the state OFF or FILLING, and the probe's count of a gate
in flight discarded; its last values and the other probes stand (R20, R21, R30, R31). -/
def Obligations.SetProbeRestartsTheProbe : Prop :=
  ∀ (p z : Byte) (zero gain : Word16) (s : State), s.ready →
    (7 < p.toNat ∨ (z ≠ 0 ∧ s.zonePresent z.toNat = false) ∨ gain.toInt = 0 ∨ gain.toInt < -4095 ∨ 4095 < gain.toInt →
        Refuses (.setProbe (Frame.exact 6) p z zero gain) 6 s .range) ∧
      (p.toNat ≤ 7 → (z = 0 ∨ s.zonePresent z.toNat = true) → gain.toInt ≠ 0 → -4095 ≤ gain.toInt →
        gain.toInt ≤ 4095 →
        ∃ t, Carried (.setProbe (Frame.exact 6) p z zero gain) 6 s t ⟨.ok, []⟩ ∧
          t.probeAt p.toNat =
            { s.probeAt p.toNat with
              zone := z.toNat, zeroCount := zero.toNat, gain := gain.toInt, window := [], rejects := 0
              state := if z = 0 then .off else .filling, edges := none } ∧
          (∀ q, q ≠ p.toNat → t.probeAt q = s.probeAt q) ∧ t.ps.gateOpen = s.ps.gateOpen ∧ t.tb = s.tb ∧
          t.zm = s.zm ∧ t.pt = s.pt ∧ t.ct = s.ct ∧ t.ae = s.ae ∧ t.hu = s.hu ∧ t.au.attention = s.au.attention)

/-- SET_ZONE: RANGE for a zone that cannot be named, a lag above 11, a hold time above 600, or, for a compartment, a
setting outside its range or a capacity below the member count; otherwise the settings are stored, for zone 5 the lag and
hold time alone, and nothing else moves (R38, R39, R40, R179). -/
def Obligations.SetZoneStoresTheSettings : Prop :=
  ∀ (z lag : Byte) (hold : Word16) (cap il : Byte) (dwell : Word16) (a : Byte) (m sp : Word16) (s : State), s.ready →
    let i := Instr.setZone (Frame.exact 13) z lag hold cap il dwell a m sp
    let compartmentBad :=
      cap.toNat < 1 ∨ 24 < cap.toNat ∨ 1 < il.toNat ∨ 3600 < dwell.toNat ∨ 100 < a.toNat ∨ m.toNat < 60 ∨
        3600 < m.toNat ∨ 14400 < sp.toNat ∨ cap.toNat < (s.membersOf z.toNat).length
    let bad :=
      s.zonePresent z.toNat = false ∨ 11 < lag.toNat ∨ 600 < hold.toNat ∨ (z ≠ 5 ∧ compartmentBad)
    (bad → Refuses i 13 s .range) ∧
      (¬bad →
        ∃ t, Carried i 13 s t ⟨.ok, []⟩ ∧
          t.zoneAt z.toNat = { s.zoneAt z.toNat with lag := lag.toNat, hold := hold.toNat } ∧
          (∀ y, y ≠ z.toNat → t.zoneAt y = s.zoneAt y) ∧
          (z ≠ 5 →
            t.compAt z.toNat =
              { s.compAt z.toNat with
                capacity := cap.toNat, interlock := decide (il = 1), dwellLimit := dwell.toNat, raise := a.toNat
                defrostMax := m.toNat, spacing := sp.toNat }) ∧
          (∀ c, c ≠ z.toNat ∨ z = 5 → t.compAt c = s.compAt c) ∧ t.zm.defrostActive = s.zm.defrostActive ∧
          t.zm.defrostLevel = s.zm.defrostLevel ∧ t.zm.defrostDebouncing = s.zm.defrostDebouncing ∧ t.tb = s.tb ∧
          t.ps = s.ps ∧ t.pt = s.pt ∧ t.ct = s.ct ∧ t.ae = s.ae ∧ t.hu = s.hu ∧ t.au.attention = s.au.attention)

/-- SET_DEFROST_MASK: RANGE if the mask names a compartment that is not present or sets a bit above bit 3; otherwise the
mask is put in place, and a compartment removed from it during an episode ends that episode at now (R52, R56, R179). -/
def Obligations.DefrostMaskIsSet : Prop :=
  ∀ (m : Byte) (s : State), s.ready →
    let bad := ∃ b, b < 8 ∧ m.getLsbD b = true ∧ s.compPresent (b + 1) = false
    (bad → Refuses (.setDefrostMask (Frame.exact 1) m) 1 s .range) ∧
      (¬bad →
        ∃ t, Carried (.setDefrostMask (Frame.exact 1) m) 1 s t ⟨.ok, []⟩ ∧
          (∀ c, 1 ≤ c → c ≤ 4 →
            let k := s.compAt c
            (s.compPresent c = true →
                (k.inMask = true ∧ m.getLsbD (c - 1) = false ∧ k.episode.isSome = true →
                    t.compAt c = { k with inMask := false, episode := none, previousEnd := some s.tb.trip }) ∧
                  (k.inMask = false ∨ m.getLsbD (c - 1) = true ∨ k.episode = none →
                    t.compAt c = { k with inMask := m.getLsbD (c - 1) })) ∧
              (s.compPresent c = false → t.compAt c = k)) ∧
          t.zm.zones = s.zm.zones ∧ t.zm.defrostActive = s.zm.defrostActive ∧
          t.zm.defrostLevel = s.zm.defrostLevel ∧ t.zm.defrostDebouncing = s.zm.defrostDebouncing ∧ t.tb = s.tb ∧
          t.ps = s.ps ∧ t.pt = s.pt ∧ t.ct = s.ct ∧ t.ae = s.ae ∧ t.hu = s.hu ∧ t.au.attention = s.au.attention)

/-- SET_ALERT: RANGE for a line above 1, a condition above 7 or a mode above 2; otherwise condition and mode are stored,
the reference takes the condition's level, the latch is cleared and the pulse stopped, on that line alone (its count of starts, the model's own, standing: log entry 8), which is then
high in FOLLOW with the condition true and low otherwise (R172, R174). The lines are taken up to date before the command,
as every step leaves them. -/
def Obligations.SetAlertSetsTheLineAfresh : Prop :=
  ∀ (line cond mode : Byte) (s : State), s.ready →
    (1 < line.toNat ∨ 7 < cond.toNat ∨ 2 < mode.toNat →
        Refuses (.setAlert (Frame.exact 3) line cond mode) 3 s .range) ∧
      (cond.toNat ≤ 7 → mode.toNat ≤ 2 → s.linesCurrent →
        ∀ l : Fin 2, line.toNat = l.val →
          let c : Condition :=
            match cond.toNat with
            | 0 => .newBreak
            | 1 => .atRiskPresent
            | 2 => .blindZone
            | 3 => .doorDwell
            | 4 => .timebaseDegraded
            | 5 => .probeFault
            | 6 => .handoverPending
            | _ => .tableNearFull
          let md : Mode := if mode = 0 then .follow else if mode = 1 then .latch else .pulse
          ∃ t, Answered (.setAlert (Frame.exact 3) line cond mode) 3 s t ⟨.ok, []⟩ ∧
            t.au.lines[l] = ⟨c, md, s.level c, false, none, s.au.lines[l].pulses⟩ ∧
            t.alertHigh l = (decide (md = .follow) && s.level c) ∧
            (∀ m : Fin 2, m ≠ l → t.au.lines[m] = s.au.lines[m]) ∧ t.au.attention = s.au.attention ∧ Unmoved s t)

/-- ACK_ALERT is refused with RANGE if the line is above 1; when taken it clears the line's latch, answers OK with no
payload and leaves the reference, a running pulse and the other line as they stand, a LATCH line low. The lines are taken
up to date before the command, as every step leaves them (R175). -/
def Obligations.AckAlertClearsTheLatch : Prop :=
  ∀ (line : Byte) (s : State), s.ready →
    (1 < line.toNat → Refuses (.ackAlert (Frame.exact 1) line) 1 s .range) ∧
      (s.linesCurrent → ∀ l : Fin 2, line.toNat = l.val →
        ∃ t, Answered (.ackAlert (Frame.exact 1) line) 1 s t ⟨.ok, []⟩ ∧
          t.au.lines[l] = { s.au.lines[l] with latch := false } ∧
          (s.au.lines[l].mode = .latch → t.alertHigh l = false) ∧
          (∀ m : Fin 2, m ≠ l → t.au.lines[m] = s.au.lines[m]) ∧ t.au.attention = s.au.attention ∧ Unmoved s t)

/-- DEFINE_PROFILE: RANGE for an index above 7 or limits that are not valid, then IN_USE; otherwise the five values
replace the entry's whole and it is defined. CLEAR_PROFILE: RANGE, then IN_USE; otherwise the entry is undefined with its
five values 0. The use count and the other entries stand (R62 to R65). -/
def Obligations.ProfilesAreDefinedAndCleared : Prop :=
  (∀ (i : Byte) (u l : Word16) (bh bl ba : Word32) (s : State), s.ready →
      let valid :=
        -400 ≤ u.toInt ∧ u.toInt ≤ 700 ∧ -400 ≤ l.toInt ∧ l.toInt ≤ 700 ∧ l.toInt < u.toInt
      let c := Instr.defineProfile (Frame.exact 17) i u l bh bl ba
      RefusedInOrder c 17 s
          [(7 < i.toNat ∨ ¬valid, .range), (0 < (s.profileAt i.toNat).useCount, .inUse)] ∧
        (i.toNat ≤ 7 → valid → (s.profileAt i.toNat).useCount = 0 →
          ∃ t, Carried c 17 s t ⟨.ok, []⟩ ∧
            t.profileAt i.toNat = ⟨true, u.toInt, l.toInt, bh.toNat, bl.toNat, ba.toNat, 0⟩ ∧
            (∀ j, j ≠ i.toNat → t.profileAt j = s.profileAt j) ∧ t.tb = s.tb ∧ t.ps = s.ps ∧ t.zm = s.zm ∧
            t.ct = s.ct ∧ t.ae = s.ae ∧ t.hu = s.hu ∧ t.au.attention = s.au.attention)) ∧
    ∀ (i : Byte) (s : State), s.ready →
      RefusedInOrder (.clearProfile (Frame.exact 1) i) 1 s
          [(7 < i.toNat, .range), (0 < (s.profileAt i.toNat).useCount, .inUse)] ∧
        (i.toNat ≤ 7 → (s.profileAt i.toNat).useCount = 0 →
          ∃ t, Carried (.clearProfile (Frame.exact 1) i) 1 s t ⟨.ok, []⟩ ∧
            t.profileAt i.toNat = ⟨false, 0, 0, 0, 0, 0, 0⟩ ∧
            (∀ j, j ≠ i.toNat → t.profileAt j = s.profileAt j) ∧ t.tb = s.tb ∧ t.ps = s.ps ∧ t.zm = s.zm ∧
            t.ct = s.ct ∧ t.ae = s.ae ∧ t.hu = s.hu ∧ t.au.attention = s.au.attention)

/-! ### Custody -/

/-- The checks of LOAD, SHIFT, STAGE and RESTOW, each in its order, decide the refusal, and a refused
command changes nothing (R76, R77, R82, R84, R86, R88, R91, R93, R95). A FREE slot is stale, so the checks after that one
have a record. -/
def Obligations.CustodyRefusalsInOrder : Prop :=
  (∀ (id : Word32) (prof comp : Byte) (s : State), s.ready →
      RefusedInOrder (.load (Frame.exact 6) id prof comp) 6 s
        [(s.tb.interval = none, .notReady),
          (7 < prof.toNat ∨ comp = 0 ∨ 4 < comp.toNat ∨ s.tb.presentCount < comp.toNat, .range),
          ((s.profileAt prof.toNat).defined = false, .noProfile),
          (∃ h ∈ s.ct.index, ∃ r, s.record? h = some r ∧ r.id = id, .duplicate),
          (∀ h, h < 48 → s.record? h ≠ none, .tableFull),
          ((s.compAt comp.toNat).capacity ≤ (s.membersOf comp.toNat).length, .zoneFull),
          ((s.compAt comp.toNat).interlock = true ∧ (s.compAt comp.toNat).doorOpen = false, .doorClosed)]) ∧
    (∀ (h : Byte) (id : Word32) (e d : Byte) (s : State), s.ready →
        let stale := ∀ r, s.record? h.toNat = some r → r.id ≠ id
        let fromState := fun (p : Record → Prop) => ∀ r, s.record? h.toNat = some r → ¬p r
        let at_ := s.placeOf h.toNat
        let shut := fun c => (s.compAt c).interlock = true ∧ (s.compAt c).doorOpen = false
        let full := fun c => (s.compAt c).capacity ≤ (s.membersOf c).length
        RefusedInOrder (.shift (Frame.exact 7) h id e d) 7 s
            [(47 < h.toNat ∨ s.compPresent e.toNat = false ∨ s.compPresent d.toNat = false, .range),
              (stale, .staleHandle), (fromState fun r => r.isLoaded = true, .wrongState), (at_ ≠ e.toNat, .mismatch),
              (shut at_, .doorClosed), (shut d.toNat, .doorClosed), (full d.toNat, .zoneFull),
              (d.toNat = at_, .range)] ∧
          RefusedInOrder (.stage (Frame.exact 6) h id e) 6 s
            [(47 < h.toNat ∨ s.compPresent e.toNat = false, .range), (stale, .staleHandle),
              (fromState fun r => r.isLoaded = true, .wrongState), (at_ ≠ e.toNat, .mismatch),
              (8 ≤ s.ct.stage.length, .zoneFull), (shut at_, .doorClosed)] ∧
          RefusedInOrder (.restow (Frame.exact 6) h id d) 6 s
            [(47 < h.toNat ∨ s.compPresent d.toNat = false, .range), (stale, .staleHandle),
              (fromState fun r => r.isStaged = true, .wrongState), (full d.toNat, .zoneFull),
              (shut d.toNat, .doorClosed)])

/-- A LOAD that passes its checks makes the record in the lowest FREE slot, INTACT with every figure 0, last charge now
and the fold of its ID and LOAD step; the use count rises, the handle enters the index in ID order and the compartment's
list at its end, and the answer is the handle (R66, R75, R79, R81, R89, R126). -/
def Obligations.LoadMakesTheRecord : Prop :=
  ∀ (id : Word32) (prof comp : Byte) (h : Nat) (s : State), s.ready → s.indexed → s.tb.interval ≠ none →
    prof.toNat ≤ 7 → s.compPresent comp.toNat = true → (s.profileAt prof.toNat).defined = true →
    (∀ k r, s.record? k = some r → r.id ≠ id) → h < 48 → s.record? h = none →
    (∀ k, k < h → s.record? k ≠ none) → (s.membersOf comp.toNat).length < (s.compAt comp.toNat).capacity →
    ((s.compAt comp.toNat).interlock = true → (s.compAt comp.toNat).doorOpen = true) →
    ∃ (t : State) (before after : List Nat),
      Carried (.load (Frame.exact 6) id prof comp) 6 s t ⟨.ok, [BitVec.ofNat 8 h]⟩ ∧
      t.record? h =
        some ⟨id, .loaded comp.toNat s.tb.trip, prof.toNat, .intact, ⟨false, false, false, false, false⟩, 0, 0, 0, 0, 0,
          0, crcBytes (crcBytes 0xFFFF (bytes32 id)) [1, 0, comp, 0, 0, 0, 0, 0]⟩ ∧
      OthersStand h s t ∧
      t.profileAt prof.toNat =
        { s.profileAt prof.toNat with useCount := (s.profileAt prof.toNat).useCount + 1 } ∧
      (∀ i, i ≠ prof.toNat → t.profileAt i = s.profileAt i) ∧
      s.ct.index = before ++ after ∧ t.ct.index = before ++ h :: after ∧
      (∀ k ∈ before, ∀ r, s.record? k = some r → r.id.toNat < id.toNat) ∧
      (∀ k ∈ after, ∀ r, s.record? k = some r → id.toNat < r.id.toNat) ∧
      t.membersOf comp.toNat = s.membersOf comp.toNat ++ [h] ∧
      (∀ c, c ≠ comp.toNat → t.membersOf c = s.membersOf c) ∧ t.ct.stage = s.ct.stage ∧ t.tb = s.tb ∧ t.ps = s.ps ∧
      t.zm = s.zm ∧ t.ae = s.ae ∧ t.hu = s.hu ∧ t.au.attention = s.au.attention


/-- SHIFT, STAGE and RESTOW that pass their checks settle the record at now where it is, fold the command's step from the
place before to the place after with the settled status and custody seconds, and move it to the end of its new list, the
others keeping their order; a rise at the settle is raised (R81, R85, R92, R94, R96, R127, R128). -/
def Obligations.MovesSettleFoldAndMove : Prop :=
  ∀ (h : Byte) (id : Word32) (d : Byte) (r : Record) (s : State), s.ready → s.record? h.toNat = some r → r.id = id →
    let settled := r.settle (s.readings r) s.tb.trip
    let moved := fun (i : Instr) (n : Nat) (code : Byte) (place : Nat) (custody : Nat → Custody) =>
      ∃ (t : State) (charged : Nat),
        Carried i n s t ⟨.ok, []⟩ ∧ settled.1.lastCharge? = some charged ∧
          t.record? h.toNat =
            some { settled.1 with
              custody := custody charged
              fold :=
                crcBytes settled.1.fold
                  ([code, BitVec.ofNat 8 r.place, BitVec.ofNat 8 place, BitVec.ofNat 8 settled.1.status.ordinal] ++
                    nat32 settled.1.custodySeconds) } ∧
          OthersStand h.toNat s t ∧ Raised settled.2 s t ∧ t.ct.index = s.ct.index ∧
          (∀ c, 1 ≤ c → c ≤ 4 →
            t.membersOf c =
              (s.membersOf c).filter (· != h.toNat) ++ (if c = place then [h.toNat] else [])) ∧
          t.ct.stage = s.ct.stage.filter (· != h.toNat) ++ (if place = 5 then [h.toNat] else []) ∧ t.tb = s.tb ∧
          t.ps = s.ps ∧ t.zm = s.zm ∧ t.pt = s.pt ∧ t.ae = s.ae ∧ t.hu = s.hu
    let open_ := fun c => (s.compAt c).interlock = true → (s.compAt c).doorOpen = true
    let room := fun c => (s.membersOf c).length < (s.compAt c).capacity
    (∀ c t0, r.custody = .loaded c t0 → s.compPresent c = true → s.compPresent d.toNat = true → d.toNat ≠ c →
        open_ c → open_ d.toNat → room d.toNat →
        moved (.shift (Frame.exact 7) h id (BitVec.ofNat 8 c) d) 7 2 d.toNat (.loaded d.toNat)) ∧
      (∀ c t0, r.custody = .loaded c t0 → s.compPresent c = true → open_ c → s.ct.stage.length < 8 →
        moved (.stage (Frame.exact 6) h id (BitVec.ofNat 8 c)) 6 3 5 .staged) ∧
      (∀ t0, r.custody = .staged t0 → s.compPresent d.toNat = true → open_ d.toNat → room d.toNat →
        moved (.restow (Frame.exact 6) h id d) 6 4 d.toNat (.loaded d.toNat))

/-- DELIVER and WRITE_OFF: RANGE, STALE_HANDLE, WRONG_STATE in that order; otherwise the record is settled at now, its
closing step folded to place 6, it leaves its list and is CLOSED with its close kind, and the answer is its view after
these changes (R85, R97, R98, R156). -/
def Obligations.ClosingSettlesAndProves : Prop :=
  ∀ (h : Byte) (id : Word32) (s : State), s.ready →
    let stale := ∀ r, s.record? h.toNat = some r → r.id ≠ id
    let fromState := fun (p : Record → Prop) => ∀ r, s.record? h.toNat = some r → ¬p r
    RefusedInOrder (.deliver (Frame.exact 5) h id) 5 s
        [(47 < h.toNat, .range), (stale, .staleHandle), (fromState fun r => r.isStaged = true, .wrongState)] ∧
      RefusedInOrder (.writeOff (Frame.exact 5) h id) 5 s
        [(47 < h.toNat, .range), (stale, .staleHandle),
          (fromState fun r => r.isLoaded = true ∨ r.isStaged = true, .wrongState)] ∧
      ∀ r, s.record? h.toNat = some r → r.id = id →
        let settled := r.settle (s.readings r) s.tb.trip
        let closed := fun (i : Instr) (code : Byte) (kind : CloseKind) =>
          ∃ (t : State) (r' : Record),
            Carried i 5 s t ⟨.ok, recordView h.toNat r'⟩ ∧ t.record? h.toNat = some r' ∧
              r' =
                { settled.1 with
                  custody := .closed kind
                  fold :=
                    crcBytes settled.1.fold
                      ([code, BitVec.ofNat 8 r.place, 6, BitVec.ofNat 8 settled.1.status.ordinal] ++
                        nat32 settled.1.custodySeconds) } ∧
              OthersStand h.toNat s t ∧ Raised settled.2 s t ∧ t.ct.index = s.ct.index ∧
              (∀ c, 1 ≤ c → c ≤ 4 → t.membersOf c = (s.membersOf c).filter (· != h.toNat)) ∧
              t.ct.stage = s.ct.stage.filter (· != h.toNat) ∧ t.tb = s.tb ∧ t.ps = s.ps ∧ t.zm = s.zm ∧ t.pt = s.pt ∧
              t.ae = s.ae ∧ t.hu = s.hu
        (r.isStaged = true → closed (.deliver (Frame.exact 5) h id) 5 .delivered) ∧
          (r.isLoaded = true ∨ r.isStaged = true → closed (.writeOff (Frame.exact 5) h id) 6 .writtenOff)

/-- RELEASE: RANGE, STALE_HANDLE, WRONG_STATE in that order; otherwise the answer is the record's final view, its handle
leaves the index, its profile's use count falls by one and its slot is FREE, with no settle and no fold (R79, R99). -/
def Obligations.ReleaseFreesTheSlot : Prop :=
  ∀ (h : Byte) (id : Word32) (s : State), s.ready →
    RefusedInOrder (.release (Frame.exact 5) h id) 5 s
        [(47 < h.toNat, .range), (∀ r, s.record? h.toNat = some r → r.id ≠ id, .staleHandle),
          (∀ r, s.record? h.toNat = some r → r.isClosed = false, .wrongState)] ∧
      ∀ r, s.record? h.toNat = some r → r.id = id → r.isClosed = true → r.profile ≤ 7 →
        ∃ t, Carried (.release (Frame.exact 5) h id) 5 s t ⟨.ok, recordView h.toNat r⟩ ∧ t.record? h.toNat = none ∧
          OthersStand h.toNat s t ∧ t.ct.index = s.ct.index.filter (· != h.toNat) ∧
          t.profileAt r.profile =
            { s.profileAt r.profile with useCount := (s.profileAt r.profile).useCount - 1 } ∧
          (∀ i, i ≠ r.profile → t.profileAt i = s.profileAt i) ∧ t.ct.members = s.ct.members ∧
          t.ct.stage = s.ct.stage ∧ t.tb = s.tb ∧ t.ps = s.ps ∧ t.zm = s.zm ∧ t.ae = s.ae ∧ t.hu = s.hu ∧
          t.au.attention = s.au.attention

/-! ### Hand-off and adoption -/

/-- HAND_OFF: RANGE, STALE_HANDLE, WRONG_STATE in that order; otherwise the record is settled at now, its hand-off count
raised up to 255, the lapsed mark cleared, the HAND_OFF step folded, and it is frozen with the deadline now + Wh capped at
4,294,967,295, at its position in the stage list; the answer is the image check, the CRC over image bytes 0 to 45 (R83,
R131, R135). -/
def Obligations.HandOffFreezesTheRecord : Prop :=
  ∀ (h : Byte) (id : Word32) (s : State), s.ready →
    RefusedInOrder (.handOff (Frame.exact 5) h id) 5 s
        [(47 < h.toNat, .range), (∀ r, s.record? h.toNat = some r → r.id ≠ id, .staleHandle),
          (∀ r, s.record? h.toNat = some r → r.isStaged = false, .wrongState)] ∧
      ∀ r, s.record? h.toNat = some r → r.id = id → r.isStaged = true →
        let settled := r.settle (s.readings r) s.tb.trip
        ∃ (t : State) (r' : Record),
          Carried (.handOff (Frame.exact 5) h id) 5 s t
            ⟨.ok, bytes16 (crcBytes 0xFFFF ((recordImage (s.profileAt r.profile) r').take 46))⟩ ∧
          t.record? h.toNat = some r' ∧
          r' =
            { settled.1 with
              custody := .handover s.tb.trip (min (s.tb.trip + s.hu.window) 4294967295)
              handOffs := min (settled.1.handOffs + 1) 255
              marks := { settled.1.marks with lapsed := false }
              fold :=
                crcBytes settled.1.fold
                  ([7, 5, 5, BitVec.ofNat 8 settled.1.status.ordinal] ++ nat32 settled.1.custodySeconds) } ∧
          OthersStand h.toNat s t ∧ Raised settled.2 s t ∧ t.ct.index = s.ct.index ∧ t.ct.members = s.ct.members ∧
          t.ct.stage = s.ct.stage ∧ t.tb = s.tb ∧ t.ps = s.ps ∧ t.zm = s.zm ∧ t.pt = s.pt ∧ t.ae = s.ae ∧ t.hu = s.hu

/-- EXPORT_PART: RANGE, STALE_HANDLE, WRONG_STATE in that order; otherwise part k of the image of the frozen record, whose
48 bytes hold the fields of R186 with the dynamic marks clear and the check over bytes 0 to 45, and no block changes
(R131, R137, R138, R186). -/
def Obligations.ExportReturnsThePartsOfTheImage : Prop :=
  ∀ (h : Byte) (id : Word32) (k : Byte) (s : State), s.ready →
    RefusedInOrder (.exportPart (Frame.exact 6) h id k) 6 s
        [(47 < h.toNat ∨ 2 < k.toNat, .range), (∀ r, s.record? h.toNat = some r → r.id ≠ id, .staleHandle),
          (∀ r, s.record? h.toNat = some r → r.isHandover = false, .wrongState)] ∧
      ∀ r, s.record? h.toNat = some r → r.id = id → r.isHandover = true → k.toNat ≤ 2 →
        let p := s.profileAt r.profile
        let marks : Nat := r.status.ordinal + 4 * r.marks.timing.toNat + 8 * r.marks.adopted.toNat
        let body : List Byte :=
          bytes32 r.id ++ int16 p.upper ++ int16 p.lower ++ nat32 p.upperBudget ++ nat32 p.lowerBudget ++
            nat32 p.blindAllowance ++ nat32 r.upperExposure ++ nat32 r.lowerExposure ++ nat32 r.blindSeconds ++
            nat32 r.custodySeconds ++
            nat32 (match r.status with
              | .intact => 4294967295
              | .atRisk => 4294967295
              | .unproven => 4294967295
              | .broken b => b) ++ [BitVec.ofNat 8 marks, BitVec.ofNat 8 r.handOffs] ++ nat16 r.peakExcess ++
            bytes16 r.fold
        let image := body ++ bytes16 (crcBytes 0xFFFF body)
        ∃ t, Carried (.exportPart (Frame.exact 6) h id k) 6 s t
            ⟨.ok, (image.drop (16 * k.toNat)).take 16⟩ ∧ image.length = 48 ∧ Unmoved s t ∧
          t.au.attention = s.au.attention

/-- CONFIRM and RECALL: RANGE, STALE_HANDLE, then for CONFIRM LATE for a STAGED record with the lapsed mark and
WRONG_STATE otherwise than HANDOVER, for RECALL WRONG_STATE otherwise than HANDOVER. A CONFIRM that is taken folds its
step with the frozen figures and closes the record as HANDED_OVER, with no settle; a RECALL charges the frozen interval
blind, evaluates the status and returns the record to STAGED at its position (R83, R139, R140, R141). -/
def Obligations.ConfirmClosesAndRecallReturns : Prop :=
  ∀ (h : Byte) (id : Word32) (s : State), s.ready →
    let stale := ∀ r, s.record? h.toNat = some r → r.id ≠ id
    RefusedInOrder (.confirm (Frame.exact 5) h id) 5 s
        [(47 < h.toNat, .range), (stale, .staleHandle),
          (∃ r, s.record? h.toNat = some r ∧ r.isStaged = true ∧ r.marks.lapsed = true, .late),
          (∀ r, s.record? h.toNat = some r → r.isHandover = false, .wrongState)] ∧
      RefusedInOrder (.recallRecord (Frame.exact 5) h id) 5 s
        [(47 < h.toNat, .range), (stale, .staleHandle),
          (∀ r, s.record? h.toNat = some r → r.isHandover = false, .wrongState)] ∧
      ∀ r frozenAt deadline, s.record? h.toNat = some r → r.id = id → r.custody = .handover frozenAt deadline →
        (∃ (t : State) (r' : Record),
            Carried (.confirm (Frame.exact 5) h id) 5 s t ⟨.ok, recordView h.toNat r'⟩ ∧
              t.record? h.toNat = some r' ∧
              r' =
                { r with
                  custody := .closed .handedOver
                  fold :=
                    crcBytes r.fold ([8, 5, 6, BitVec.ofNat 8 r.status.ordinal] ++ nat32 r.custodySeconds) } ∧
              OthersStand h.toNat s t ∧ t.ct.index = s.ct.index ∧
              t.ct.stage = s.ct.stage.filter (· != h.toNat) ∧
              (∀ c, 1 ≤ c → c ≤ 4 → t.membersOf c = (s.membersOf c).filter (· != h.toNat)) ∧
              t.au.attention = s.au.attention ∧ t.tb = s.tb ∧ t.ps = s.ps ∧ t.zm = s.zm ∧ t.pt = s.pt ∧ t.ae = s.ae ∧
              t.hu = s.hu) ∧
          let f := s.tb.trip - frozenAt
          let timing :=
            r.marks.timing ||
              decide (0 < f) && (s.tb.degraded || s.tb.lastDegraded.any fun d => decide (frozenAt ≤ d))
          let charged : Record :=
            { r with
              blindSeconds := min (r.blindSeconds + f) 4294967295
              custodySeconds := min (r.custodySeconds + f) 4294967295
              custody := .staged s.tb.trip
              marks := { r.marks with timing := timing } }
          let evaluated := charged.evaluate (s.profileAt r.profile)
          ∃ t,
            Carried (.recallRecord (Frame.exact 5) h id) 5 s t ⟨.ok, []⟩ ∧
              t.record? h.toNat =
                some { evaluated.1 with
                  fold :=
                    crcBytes evaluated.1.fold
                      ([9, 5, 5, BitVec.ofNat 8 evaluated.1.status.ordinal] ++ nat32 evaluated.1.custodySeconds) } ∧
              OthersStand h.toNat s t ∧ Raised evaluated.2 s t ∧ t.ct.index = s.ct.index ∧
              t.ct.members = s.ct.members ∧ t.ct.stage = s.ct.stage ∧ t.tb = s.tb ∧ t.ps = s.ps ∧ t.zm = s.zm ∧
              t.pt = s.pt ∧ t.ae = s.ae ∧ t.hu = s.hu

/-- ADOPT_PART: RANGE for a part above 2; part 0 always restarts the buffer; part 1 or 2 is appended when it is the next
one and refused with SEQUENCE otherwise; the answer is the counter after the part (R145, R146). -/
def Obligations.AdoptPartGathersInSequence : Prop :=
  ∀ (k : Byte) (bytes : Vector Byte 16) (s : State), s.ready →
    RefusedInOrder (.adoptPart (Frame.exact 17) k bytes) 17 s
        [(2 < k.toNat, .range), (k ≠ 0 ∧ k.toNat ≠ s.hu.parts.length, .sequence)] ∧
      (k.toNat ≤ 2 → (k = 0 ∨ k.toNat = s.hu.parts.length) →
        ∃ t, Carried (.adoptPart (Frame.exact 17) k bytes) 17 s t ⟨.ok, [BitVec.ofNat 8 (k.toNat + 1)]⟩ ∧
          t.hu.parts = (if k = 0 then [bytes] else s.hu.parts ++ [bytes]) ∧ t.hu.parts.length = k.toNat + 1 ∧
          t.hu.window = s.hu.window ∧ t.tb = s.tb ∧ t.ps = s.ps ∧ t.zm = s.zm ∧ t.pt = s.pt ∧ t.ct = s.ct ∧
          t.ae = s.ae ∧ t.au.attention = s.au.attention)

/-- ADOPT_ABORT clears the adoption buffer whatever it holds and answers OK with no payload; it changes no record, profile
or count (R151). -/
def Obligations.AdoptAbortClearsTheBuffer : Prop :=
  ∀ s : State, s.ready →
    ∃ t, Carried (.adoptAbort (Frame.exact 0)) 0 s t ⟨.ok, []⟩ ∧ t.hu = { s.hu with parts := [] } ∧ t.tb = s.tb ∧
      t.ps = s.ps ∧ t.zm = s.zm ∧ t.pt = s.pt ∧ t.ct = s.ct ∧ t.ae = s.ae ∧ t.au.attention = s.au.attention

/-- The checks of ADOPT_COMMIT in their order, BAD_IMAGE being the failure of one of the three conditions of R148, each refusal keeping the buffer but BAD_CHECK and BAD_IMAGE, which clear it
and change nothing else (R68, R132, R147, R148). -/
def Obligations.AdoptCommitRefusalsInOrder : Prop :=
  ∀ s : State, s.ready →
    let i := Instr.adoptCommit (Frame.exact 0)
    let b := s.hu.parts.flatMap Vector.toList
    let checkOk := crcBytes 0xFFFF (b.take 46) = word16At b 46
    let consistent :=
      -400 ≤ (word16At b 4).toInt ∧ (word16At b 4).toInt ≤ 700 ∧ -400 ≤ (word16At b 6).toInt ∧
        (word16At b 6).toInt ≤ 700 ∧ (word16At b 6).toInt < (word16At b 4).toInt ∧
        (word32At b 28).toNat ≤ (word32At b 32).toNat ∧
        ((byteAt b 40).toNat % 4 ≠ 3 → word32At b 36 = 0xFFFFFFFF) ∧
        ((byteAt b 40).toNat % 4 = 3 → (word32At b 36).toNat ≤ (word32At b 32).toNat)
    let dropped := fun code =>
      ∃ t, Carried i 0 s t ⟨code, []⟩ ∧ t.hu = { s.hu with parts := [] } ∧ t.tb = s.tb ∧ t.ps = s.ps ∧ t.zm = s.zm ∧
        t.pt = s.pt ∧ t.ct = s.ct ∧ t.ae = s.ae ∧ t.au.attention = s.au.attention
    (s.tb.interval = none → Refuses i 0 s .notReady) ∧
      (s.tb.interval ≠ none → s.hu.parts.length ≠ 3 → Refuses i 0 s .sequence) ∧
      (s.tb.interval ≠ none → s.hu.parts.length = 3 →
        (¬checkOk → dropped .badCheck) ∧
          (checkOk →
            (¬consistent → dropped .badImage) ∧
              (consistent →
                RefusedInOrder i 0 s
                  [(∃ h ∈ s.ct.index, ∃ r, s.record? h = some r ∧ r.id = word32At b 0, .duplicate),
                    (∀ p, p < 8 →
                      ¬((s.profileAt p).defined = true ∧ (s.profileAt p).upper = (word16At b 4).toInt ∧
                        (s.profileAt p).lower = (word16At b 6).toInt ∧
                        (s.profileAt p).upperBudget = (word32At b 8).toNat ∧
                        (s.profileAt p).lowerBudget = (word32At b 12).toNat ∧
                        (s.profileAt p).blindAllowance = (word32At b 16).toNat), .noProfile),
                    (∀ h, h < 48 → s.record? h ≠ none, .tableFull), (8 ≤ s.ct.stage.length, .zoneFull)])))

/-- An ADOPT_COMMIT that passes its checks makes a STAGED record in the lowest FREE slot with the image's figures, the
adopted mark, last charge now and the image's fold continued with the ADOPT step; the lowest matching profile's use count
rises, the handle enters the index and the stage list, the buffer is cleared, and the answer is the handle (R68, R75,
R130, R148, R149). -/
def Obligations.AdoptCommitMakesTheRecord : Prop :=
  ∀ (h p : Nat) (s : State), s.ready → s.indexed → s.tb.interval ≠ none → s.hu.parts.length = 3 →
    let b := s.hu.parts.flatMap Vector.toList
    let matching := fun i =>
      (s.profileAt i).defined = true ∧ (s.profileAt i).upper = (word16At b 4).toInt ∧
        (s.profileAt i).lower = (word16At b 6).toInt ∧ (s.profileAt i).upperBudget = (word32At b 8).toNat ∧
        (s.profileAt i).lowerBudget = (word32At b 12).toNat ∧
        (s.profileAt i).blindAllowance = (word32At b 16).toNat
    crcBytes 0xFFFF (b.take 46) = word16At b 46 →
    -400 ≤ (word16At b 4).toInt → (word16At b 4).toInt ≤ 700 → -400 ≤ (word16At b 6).toInt →
    (word16At b 6).toInt ≤ 700 → (word16At b 6).toInt < (word16At b 4).toInt →
    (word32At b 28).toNat ≤ (word32At b 32).toNat →
    ((byteAt b 40).toNat % 4 ≠ 3 → word32At b 36 = 0xFFFFFFFF) →
    ((byteAt b 40).toNat % 4 = 3 → (word32At b 36).toNat ≤ (word32At b 32).toNat) →
    (∀ k r, s.record? k = some r → r.id ≠ word32At b 0) → p < 8 → matching p → (∀ i, i < p → ¬matching i) → h < 48 →
    s.record? h = none → (∀ k, k < h → s.record? k ≠ none) → s.ct.stage.length < 8 →
    let statusBits := (byteAt b 40).toNat % 4
    let status : Status :=
      if statusBits = 0 then .intact
      else if statusBits = 1 then .atRisk
      else if statusBits = 2 then .unproven
      else .broken (word32At b 36).toNat
    ∃ (t : State) (before after : List Nat),
      Carried (.adoptCommit (Frame.exact 0)) 0 s t ⟨.ok, [BitVec.ofNat 8 h]⟩ ∧
      t.record? h =
        some ⟨word32At b 0, .staged s.tb.trip, p, status, ⟨(byteAt b 40).getLsbD 2, true, false, false, false⟩,
          (word32At b 20).toNat, (word32At b 24).toNat, (word32At b 28).toNat, (word32At b 32).toNat,
          (word16At b 42).toNat, (byteAt b 41).toNat,
          crcBytes (word16At b 44)
            ([11, 0, 5, BitVec.ofNat 8 statusBits] ++ [byteAt b 32, byteAt b 33, byteAt b 34, byteAt b 35])⟩ ∧
      OthersStand h s t ∧
      t.profileAt p = { s.profileAt p with useCount := (s.profileAt p).useCount + 1 } ∧
      (∀ i, i ≠ p → t.profileAt i = s.profileAt i) ∧ s.ct.index = before ++ after ∧
      t.ct.index = before ++ h :: after ∧
      (∀ k ∈ before, ∀ r, s.record? k = some r → r.id.toNat < (word32At b 0).toNat) ∧
      (∀ k ∈ after, ∀ r, s.record? k = some r → (word32At b 0).toNat < r.id.toNat) ∧
      t.ct.stage = s.ct.stage ++ [h] ∧ t.ct.members = s.ct.members ∧ t.hu = { s.hu with parts := [] } ∧
      t.tb = s.tb ∧ t.ps = s.ps ∧ t.zm = s.zm ∧ t.ae = s.ae ∧ t.au.attention = s.au.attention

/-! ### Arithmetic -/

/-- A count N is converted with zero count Z and gain K to the integer nearest to (N − Z) × K / 256, a half away from
zero, the product lying within ±268,365,825 for every count, zero count and gain in range; a gate-close converts with the
probe's Z and K as they stand then (R24). -/
def Obligations.ConversionRoundsHalvesAway : Prop :=
  ∀ (n z : Nat) (k : Int), n ≤ 65535 → z ≤ 65535 → -4095 ≤ k → k ≤ 4095 →
    let v := ((n : Int) - z) * k
    let t := convertCount n z k
    (∀ q : Probe, q.edges = some n → q.zeroCount = z → q.gain = k → q.state ≠ .off → q.closeGate.lastTemp = t) ∧
    v ≤ 268365825 ∧ -268365825 ≤ v ∧ 2 * abs (256 * t - v) ≤ 256 ∧
      (2 * abs (256 * t - v) = 256 → abs v < 256 * abs t)

/-- The probe value of a window of at most four readings depends on its readings alone, not on their order, and is, over
the readings sorted by value, absent for none, the reading for one, for two the greatest integer not above
(a + b + 1) / 2, the middle one for three, and for four as for two with the second and third (R29). -/
def Obligations.ProbeValueIsFormedFromTheSortedWindow : Prop :=
  (∀ v w : List Int, v.Perm w → probeValue? v = probeValue? w) ∧ probeValue? [] = none ∧
    (∀ a : Int, probeValue? [a] = some a) ∧
    (∀ a b : Int, ∃ m, probeValue? [a, b] = some m ∧ 2 * m ≤ a + b + 1 ∧ a + b + 1 < 2 * (m + 1)) ∧
    (∀ a b c : Int, a ≤ b → b ≤ c → probeValue? [a, b, c] = some b) ∧
    ∀ a b c d : Int, a ≤ b → b ≤ c → c ≤ d →
      ∃ m, probeValue? [a, b, c, d] = some m ∧ 2 * m ≤ b + c + 1 ∧ b + c + 1 < 2 * (m + 1)

/-- Feeding one bit shifts left, drops the top bit and exclusive-ors 1021h when the top bit differs from the bit fed; a
byte is fed bit 7 first; bytes and fields are fed in turn; a field is its bytes, most significant first, a signed one in
two's complement, in two bytes and in four; the fold of a new record and an image check start at FFFFh (R125). -/
def Obligations.CrcFeedsMostSignificantBitFirst : Prop :=
  (∀ (f : Word16) (b : Bool),
      (crcBit f b).toNat =
        if (decide (32768 ≤ f.toNat)) = b then 2 * f.toNat % 65536
        else (2 * f.toNat % 65536) ^^^ 4129) ∧
    (∀ (f : Word16) (x : Byte),
      crcByte f x =
        crcBit (crcBit (crcBit (crcBit (crcBit (crcBit (crcBit (crcBit f (x.getLsbD 7)) (x.getLsbD 6)) (x.getLsbD 5))
          (x.getLsbD 4)) (x.getLsbD 3)) (x.getLsbD 2)) (x.getLsbD 1)) (x.getLsbD 0)) ∧
    (∀ f : Word16, crcBytes f [] = f) ∧
    (∀ (f : Word16) (x : Byte) (xs : List Byte), crcBytes f (x :: xs) = crcBytes (crcByte f x) xs) ∧
    (∀ (f : Word16) (xs ys : List Byte), crcBytes f (xs ++ ys) = crcBytes (crcBytes f xs) ys) ∧
    (∀ w : Word32, (bytes32 w).map BitVec.toNat =
      [w.toNat / 16777216, w.toNat / 65536 % 256, w.toNat / 256 % 256, w.toNat % 256]) ∧
    (∀ w : Word16, (bytes16 w).map BitVec.toNat = [w.toNat / 256, w.toNat % 256]) ∧
    (∀ x : Int, -32768 ≤ x → x ≤ 32767 →
      (int16 x).map BitVec.toNat = [((x % 65536) / 256).toNat, (x % 256).toNat]) ∧
    (∀ x : Int, -2147483648 ≤ x → x ≤ 2147483647 →
      (int32 x).map BitVec.toNat =
        [((x % 4294967296) / 16777216).toNat, ((x % 16777216) / 65536).toNat, ((x % 65536) / 256).toNat,
          (x % 256).toNat]) ∧
    (∀ (id : Word32) (prof comp now : Nat),
      (loadedRecord id prof comp now).fold =
        crcBytes 0xFFFF (bytes32 id ++ [1, 0, BitVec.ofNat 8 comp, 0, 0, 0, 0, 0])) ∧
    ∀ image : List Byte, imageCheck image = crcBytes 0xFFFF (image.take 46)

/-- The settle of a record at `t`, last charged at `since`, in its two halves.
First, with readings `g`: at or before `since` it changes nothing; after it, it charges the whole interval blind or sensed
at the readings of its instant, raises custody seconds, moves the last charge to `t`, tests the timing mark, and evaluates
the status, a rise folding its step at the record's place and raising its kind (R103, R106 to R110, R112 to R115).
Second, what it reads: a LOADED record its own compartment's zone with the raise of a granted allowance, a STAGED record
zone 5 with no raise, each its own profile and the time base (R57, R104, R107). -/
def Obligations.SettleChargesTheInterval : Prop :=
  (∀ (g : Readings) (t since : Nat) (r : Record), r.lastCharge? = some since →
      (t ≤ since → r.settle g t = (r, none)) ∧
        (since < t →
          let r' := (r.settle g t).1
          let delta := t - since
          let eHi := g.warm - (g.profile.upper + g.raise)
          let eLo := g.profile.lower - g.cold
          let cap := fun x : Nat => if 4294967295 < x then 4294967295 else x
          let broken := g.profile.upperBudget < r'.upperExposure ∨ g.profile.lowerBudget < r'.lowerExposure
          let candidate : Nat :=
            if broken then 3
            else if g.profile.blindAllowance < r'.blindSeconds then 2
            else if 0 < r'.upperExposure ∨ 0 < r'.lowerExposure ∨ 0 < r'.blindSeconds then 1
            else 0
          r'.id = r.id ∧ r'.profile = r.profile ∧ r'.handOffs = r.handOffs ∧ r'.place = r.place ∧
            r'.isLoaded = r.isLoaded ∧ r'.isStaged = r.isStaged ∧ r'.lastCharge? = some t ∧
            r'.custodySeconds = cap (r.custodySeconds + delta) ∧
            (g.blind = true →
              r'.blindSeconds = cap (r.blindSeconds + delta) ∧ r'.upperExposure = r.upperExposure ∧
                r'.lowerExposure = r.lowerExposure ∧ r'.peakExcess = r.peakExcess ∧ r'.marks.aboveNow = false ∧
                r'.marks.belowNow = false) ∧
            (g.blind = false →
              r'.blindSeconds = r.blindSeconds ∧
                r'.upperExposure = cap (r.upperExposure + (if 0 < eHi then eHi.toNat * delta else 0)) ∧
                r'.lowerExposure = cap (r.lowerExposure + (if 0 < eLo then eLo.toNat * delta else 0)) ∧
                (r'.peakExcess : Int) = max (r.peakExcess : Int) (max eHi eLo) ∧
                (r'.marks.aboveNow = true ↔ 0 < eHi) ∧ (r'.marks.belowNow = true ↔ 0 < eLo)) ∧
            r'.marks.adopted = r.marks.adopted ∧ r'.marks.lapsed = r.marks.lapsed ∧
            (r'.marks.timing = true ↔
              r.marks.timing = true ∨ g.degraded = true ∨ ∃ d, g.lastDegraded = some d ∧ since ≤ d) ∧
            r'.status.ordinal = max r.status.ordinal candidate ∧
            (candidate ≤ r.status.ordinal → r'.status = r.status ∧ r'.fold = r.fold ∧ (r.settle g t).2 = none) ∧
            (r.status.ordinal < candidate →
              (candidate = 1 → r'.fold = r.fold ∧ (r.settle g t).2 = none) ∧
                (candidate = 2 →
                  r'.fold =
                      crcBytes r.fold
                        ([13, BitVec.ofNat 8 r.place, BitVec.ofNat 8 r.place, 2] ++ nat32 r'.custodySeconds) ∧
                    (r.settle g t).2 = some .unproven) ∧
                (candidate = 3 →
                  r'.status = .broken r'.custodySeconds ∧
                    r'.fold =
                      crcBytes r.fold
                        ([12, BitVec.ofNat 8 r.place, BitVec.ofNat 8 r.place, 3] ++ nat32 r'.custodySeconds) ∧
                    (r.settle g t).2 = some .recordBreak)))) ∧
    (∀ (r : Record) (s : State),
        (∀ c t, r.custody = .loaded c t →
            s.readings r =
              { blind := decide ((s.zoneAt c).sensing = .blind)
                warm := (s.zoneAt c).warm
                cold := (s.zoneAt c).cold
                raise :=
                  match (s.compAt c).episode with
                  | some ⟨_, some a⟩ => a.raise
                  | some ⟨_, none⟩ => 0
                  | none => 0
                profile := s.profileAt r.profile
                degraded := s.tb.degraded
                lastDegraded := s.tb.lastDegraded }) ∧
          ∀ t, r.custody = .staged t →
            s.readings r =
              { blind := decide ((s.zoneAt 5).sensing = .blind)
                warm := (s.zoneAt 5).warm
                cold := (s.zoneAt 5).cold
                raise := 0
                profile := s.profileAt r.profile
                degraded := s.tb.degraded
                lastDegraded := s.tb.lastDegraded })


end
end

