-- ==== Sys2Proof/Laws/State.lean ====
section
/-! SUPPORT. One lemma per block of the state per named update: what the update leaves standing, true by unfolding. -/

namespace Sys2Proof.Machine

/-! ### `State.raise` -/

@[simp] theorem State.raise_tb (k : Kind) (s : State) : (s.raise k).tb = s.tb := rfl
@[simp] theorem State.raise_ps (k : Kind) (s : State) : (s.raise k).ps = s.ps := rfl
@[simp] theorem State.raise_zm (k : Kind) (s : State) : (s.raise k).zm = s.zm := rfl
@[simp] theorem State.raise_pt (k : Kind) (s : State) : (s.raise k).pt = s.pt := rfl
@[simp] theorem State.raise_ct (k : Kind) (s : State) : (s.raise k).ct = s.ct := rfl
@[simp] theorem State.raise_ae (k : Kind) (s : State) : (s.raise k).ae = s.ae := rfl
@[simp] theorem State.raise_hu (k : Kind) (s : State) : (s.raise k).hu = s.hu := rfl
@[simp] theorem State.raise_li (k : Kind) (s : State) : (s.raise k).li = s.li := rfl
@[simp] theorem State.raise_freeCount (k : Kind) (s : State) : (s.raise k).freeCount = s.freeCount := rfl
@[simp] theorem State.raise_pending (k : Kind) (s : State) : (s.raise k).pending = s.pending := rfl
@[simp] theorem State.raise_lines (k : Kind) (s : State) : (s.raise k).au.lines = s.au.lines := rfl
@[simp] theorem State.raise_attention (k : Kind) (s : State) :
    (s.raise k).au.attention = raiseIn k s.au.attention := rfl

/-! ### `State.setRecord` -/

@[simp] theorem State.setRecord_tb (h : Nat) (r : Option Record) (s : State) : (s.setRecord h r).tb = s.tb := rfl
@[simp] theorem State.setRecord_ps (h : Nat) (r : Option Record) (s : State) : (s.setRecord h r).ps = s.ps := rfl
@[simp] theorem State.setRecord_zm (h : Nat) (r : Option Record) (s : State) : (s.setRecord h r).zm = s.zm := rfl
@[simp] theorem State.setRecord_pt (h : Nat) (r : Option Record) (s : State) : (s.setRecord h r).pt = s.pt := rfl
@[simp] theorem State.setRecord_ae (h : Nat) (r : Option Record) (s : State) : (s.setRecord h r).ae = s.ae := rfl
@[simp] theorem State.setRecord_hu (h : Nat) (r : Option Record) (s : State) : (s.setRecord h r).hu = s.hu := rfl
@[simp] theorem State.setRecord_au (h : Nat) (r : Option Record) (s : State) : (s.setRecord h r).au = s.au := rfl
@[simp] theorem State.setRecord_li (h : Nat) (r : Option Record) (s : State) : (s.setRecord h r).li = s.li := rfl
@[simp] theorem State.setRecord_freeCount (h : Nat) (r : Option Record) (s : State) :
    (s.setRecord h r).freeCount = s.freeCount := rfl
@[simp] theorem State.setRecord_pending (h : Nat) (r : Option Record) (s : State) :
    (s.setRecord h r).pending = s.pending := rfl
@[simp] theorem State.setRecord_index (h : Nat) (r : Option Record) (s : State) :
    (s.setRecord h r).ct.index = s.ct.index := rfl
@[simp] theorem State.setRecord_members (h : Nat) (r : Option Record) (s : State) :
    (s.setRecord h r).ct.members = s.ct.members := rfl
@[simp] theorem State.setRecord_stage (h : Nat) (r : Option Record) (s : State) :
    (s.setRecord h r).ct.stage = s.ct.stage := rfl

/-! ### `State.modifyZone` -/

@[simp] theorem State.modifyZone_tb (z : Nat) (f : Zone → Zone) (s : State) : (s.modifyZone z f).tb = s.tb := rfl
@[simp] theorem State.modifyZone_ps (z : Nat) (f : Zone → Zone) (s : State) : (s.modifyZone z f).ps = s.ps := rfl
@[simp] theorem State.modifyZone_pt (z : Nat) (f : Zone → Zone) (s : State) : (s.modifyZone z f).pt = s.pt := rfl
@[simp] theorem State.modifyZone_ct (z : Nat) (f : Zone → Zone) (s : State) : (s.modifyZone z f).ct = s.ct := rfl
@[simp] theorem State.modifyZone_ae (z : Nat) (f : Zone → Zone) (s : State) : (s.modifyZone z f).ae = s.ae := rfl
@[simp] theorem State.modifyZone_hu (z : Nat) (f : Zone → Zone) (s : State) : (s.modifyZone z f).hu = s.hu := rfl
@[simp] theorem State.modifyZone_au (z : Nat) (f : Zone → Zone) (s : State) : (s.modifyZone z f).au = s.au := rfl
@[simp] theorem State.modifyZone_li (z : Nat) (f : Zone → Zone) (s : State) : (s.modifyZone z f).li = s.li := rfl
@[simp] theorem State.modifyZone_freeCount (z : Nat) (f : Zone → Zone) (s : State) :
    (s.modifyZone z f).freeCount = s.freeCount := rfl
@[simp] theorem State.modifyZone_pending (z : Nat) (f : Zone → Zone) (s : State) :
    (s.modifyZone z f).pending = s.pending := rfl
@[simp] theorem State.modifyZone_comps (z : Nat) (f : Zone → Zone) (s : State) :
    (s.modifyZone z f).zm.comps = s.zm.comps := rfl

/-! ### `State.modifyComp` -/

@[simp] theorem State.modifyComp_tb (c : Nat) (f : Compartment → Compartment) (s : State) :
    (s.modifyComp c f).tb = s.tb := rfl
@[simp] theorem State.modifyComp_ps (c : Nat) (f : Compartment → Compartment) (s : State) :
    (s.modifyComp c f).ps = s.ps := rfl
@[simp] theorem State.modifyComp_pt (c : Nat) (f : Compartment → Compartment) (s : State) :
    (s.modifyComp c f).pt = s.pt := rfl
@[simp] theorem State.modifyComp_ct (c : Nat) (f : Compartment → Compartment) (s : State) :
    (s.modifyComp c f).ct = s.ct := rfl
@[simp] theorem State.modifyComp_ae (c : Nat) (f : Compartment → Compartment) (s : State) :
    (s.modifyComp c f).ae = s.ae := rfl
@[simp] theorem State.modifyComp_hu (c : Nat) (f : Compartment → Compartment) (s : State) :
    (s.modifyComp c f).hu = s.hu := rfl
@[simp] theorem State.modifyComp_au (c : Nat) (f : Compartment → Compartment) (s : State) :
    (s.modifyComp c f).au = s.au := rfl
@[simp] theorem State.modifyComp_li (c : Nat) (f : Compartment → Compartment) (s : State) :
    (s.modifyComp c f).li = s.li := rfl
@[simp] theorem State.modifyComp_freeCount (c : Nat) (f : Compartment → Compartment) (s : State) :
    (s.modifyComp c f).freeCount = s.freeCount := rfl
@[simp] theorem State.modifyComp_pending (c : Nat) (f : Compartment → Compartment) (s : State) :
    (s.modifyComp c f).pending = s.pending := rfl
@[simp] theorem State.modifyComp_zones (c : Nat) (f : Compartment → Compartment) (s : State) :
    (s.modifyComp c f).zm.zones = s.zm.zones := rfl

/-! ### `State.mapPresentComps` -/

@[simp] theorem State.mapPresentComps_tb (f : Nat → Compartment → Compartment) (s : State) :
    (s.mapPresentComps f).tb = s.tb := rfl
@[simp] theorem State.mapPresentComps_ps (f : Nat → Compartment → Compartment) (s : State) :
    (s.mapPresentComps f).ps = s.ps := rfl
@[simp] theorem State.mapPresentComps_pt (f : Nat → Compartment → Compartment) (s : State) :
    (s.mapPresentComps f).pt = s.pt := rfl
@[simp] theorem State.mapPresentComps_ct (f : Nat → Compartment → Compartment) (s : State) :
    (s.mapPresentComps f).ct = s.ct := rfl
@[simp] theorem State.mapPresentComps_ae (f : Nat → Compartment → Compartment) (s : State) :
    (s.mapPresentComps f).ae = s.ae := rfl
@[simp] theorem State.mapPresentComps_hu (f : Nat → Compartment → Compartment) (s : State) :
    (s.mapPresentComps f).hu = s.hu := rfl
@[simp] theorem State.mapPresentComps_au (f : Nat → Compartment → Compartment) (s : State) :
    (s.mapPresentComps f).au = s.au := rfl
@[simp] theorem State.mapPresentComps_li (f : Nat → Compartment → Compartment) (s : State) :
    (s.mapPresentComps f).li = s.li := rfl
@[simp] theorem State.mapPresentComps_freeCount (f : Nat → Compartment → Compartment) (s : State) :
    (s.mapPresentComps f).freeCount = s.freeCount := rfl
@[simp] theorem State.mapPresentComps_pending (f : Nat → Compartment → Compartment) (s : State) :
    (s.mapPresentComps f).pending = s.pending := rfl
@[simp] theorem State.mapPresentComps_zones (f : Nat → Compartment → Compartment) (s : State) :
    (s.mapPresentComps f).zm.zones = s.zm.zones := rfl

/-! ### `State.modifyProbe` -/

@[simp] theorem State.modifyProbe_tb (p : Nat) (f : Probe → Probe) (s : State) : (s.modifyProbe p f).tb = s.tb := rfl
@[simp] theorem State.modifyProbe_zm (p : Nat) (f : Probe → Probe) (s : State) : (s.modifyProbe p f).zm = s.zm := rfl
@[simp] theorem State.modifyProbe_pt (p : Nat) (f : Probe → Probe) (s : State) : (s.modifyProbe p f).pt = s.pt := rfl
@[simp] theorem State.modifyProbe_ct (p : Nat) (f : Probe → Probe) (s : State) : (s.modifyProbe p f).ct = s.ct := rfl
@[simp] theorem State.modifyProbe_ae (p : Nat) (f : Probe → Probe) (s : State) : (s.modifyProbe p f).ae = s.ae := rfl
@[simp] theorem State.modifyProbe_hu (p : Nat) (f : Probe → Probe) (s : State) : (s.modifyProbe p f).hu = s.hu := rfl
@[simp] theorem State.modifyProbe_au (p : Nat) (f : Probe → Probe) (s : State) : (s.modifyProbe p f).au = s.au := rfl
@[simp] theorem State.modifyProbe_li (p : Nat) (f : Probe → Probe) (s : State) : (s.modifyProbe p f).li = s.li := rfl
@[simp] theorem State.modifyProbe_freeCount (p : Nat) (f : Probe → Probe) (s : State) :
    (s.modifyProbe p f).freeCount = s.freeCount := rfl
@[simp] theorem State.modifyProbe_pending (p : Nat) (f : Probe → Probe) (s : State) :
    (s.modifyProbe p f).pending = s.pending := rfl
@[simp] theorem State.modifyProbe_gateOpen (p : Nat) (f : Probe → Probe) (s : State) :
    (s.modifyProbe p f).ps.gateOpen = s.ps.gateOpen := rfl

/-! ### `State.modifyProfile` -/

@[simp] theorem State.modifyProfile_tb (i : Nat) (f : Profile → Profile) (s : State) :
    (s.modifyProfile i f).tb = s.tb := rfl
@[simp] theorem State.modifyProfile_ps (i : Nat) (f : Profile → Profile) (s : State) :
    (s.modifyProfile i f).ps = s.ps := rfl
@[simp] theorem State.modifyProfile_zm (i : Nat) (f : Profile → Profile) (s : State) :
    (s.modifyProfile i f).zm = s.zm := rfl
@[simp] theorem State.modifyProfile_ct (i : Nat) (f : Profile → Profile) (s : State) :
    (s.modifyProfile i f).ct = s.ct := rfl
@[simp] theorem State.modifyProfile_ae (i : Nat) (f : Profile → Profile) (s : State) :
    (s.modifyProfile i f).ae = s.ae := rfl
@[simp] theorem State.modifyProfile_hu (i : Nat) (f : Profile → Profile) (s : State) :
    (s.modifyProfile i f).hu = s.hu := rfl
@[simp] theorem State.modifyProfile_au (i : Nat) (f : Profile → Profile) (s : State) :
    (s.modifyProfile i f).au = s.au := rfl
@[simp] theorem State.modifyProfile_li (i : Nat) (f : Profile → Profile) (s : State) :
    (s.modifyProfile i f).li = s.li := rfl
@[simp] theorem State.modifyProfile_freeCount (i : Nat) (f : Profile → Profile) (s : State) :
    (s.modifyProfile i f).freeCount = s.freeCount := rfl
@[simp] theorem State.modifyProfile_pending (i : Nat) (f : Profile → Profile) (s : State) :
    (s.modifyProfile i f).pending = s.pending := rfl

/-! ### `State.modifyLine` -/

@[simp] theorem State.modifyLine_tb (l : Nat) (f : Line → Line) (s : State) : (s.modifyLine l f).tb = s.tb := rfl
@[simp] theorem State.modifyLine_ps (l : Nat) (f : Line → Line) (s : State) : (s.modifyLine l f).ps = s.ps := rfl
@[simp] theorem State.modifyLine_zm (l : Nat) (f : Line → Line) (s : State) : (s.modifyLine l f).zm = s.zm := rfl
@[simp] theorem State.modifyLine_pt (l : Nat) (f : Line → Line) (s : State) : (s.modifyLine l f).pt = s.pt := rfl
@[simp] theorem State.modifyLine_ct (l : Nat) (f : Line → Line) (s : State) : (s.modifyLine l f).ct = s.ct := rfl
@[simp] theorem State.modifyLine_ae (l : Nat) (f : Line → Line) (s : State) : (s.modifyLine l f).ae = s.ae := rfl
@[simp] theorem State.modifyLine_hu (l : Nat) (f : Line → Line) (s : State) : (s.modifyLine l f).hu = s.hu := rfl
@[simp] theorem State.modifyLine_li (l : Nat) (f : Line → Line) (s : State) : (s.modifyLine l f).li = s.li := rfl
@[simp] theorem State.modifyLine_freeCount (l : Nat) (f : Line → Line) (s : State) :
    (s.modifyLine l f).freeCount = s.freeCount := rfl
@[simp] theorem State.modifyLine_pending (l : Nat) (f : Line → Line) (s : State) :
    (s.modifyLine l f).pending = s.pending := rfl
@[simp] theorem State.modifyLine_attention (l : Nat) (f : Line → Line) (s : State) :
    (s.modifyLine l f).au.attention = s.au.attention := rfl

/-! ### `State.leaveLists` -/

@[simp] theorem State.leaveLists_tb (h : Nat) (s : State) : (s.leaveLists h).tb = s.tb := rfl
@[simp] theorem State.leaveLists_ps (h : Nat) (s : State) : (s.leaveLists h).ps = s.ps := rfl
@[simp] theorem State.leaveLists_zm (h : Nat) (s : State) : (s.leaveLists h).zm = s.zm := rfl
@[simp] theorem State.leaveLists_pt (h : Nat) (s : State) : (s.leaveLists h).pt = s.pt := rfl
@[simp] theorem State.leaveLists_ae (h : Nat) (s : State) : (s.leaveLists h).ae = s.ae := rfl
@[simp] theorem State.leaveLists_hu (h : Nat) (s : State) : (s.leaveLists h).hu = s.hu := rfl
@[simp] theorem State.leaveLists_au (h : Nat) (s : State) : (s.leaveLists h).au = s.au := rfl
@[simp] theorem State.leaveLists_li (h : Nat) (s : State) : (s.leaveLists h).li = s.li := rfl
@[simp] theorem State.leaveLists_freeCount (h : Nat) (s : State) : (s.leaveLists h).freeCount = s.freeCount := rfl
@[simp] theorem State.leaveLists_pending (h : Nat) (s : State) : (s.leaveLists h).pending = s.pending := rfl
@[simp] theorem State.leaveLists_slots (h : Nat) (s : State) : (s.leaveLists h).ct.slots = s.ct.slots := rfl
@[simp] theorem State.leaveLists_index (h : Nat) (s : State) : (s.leaveLists h).ct.index = s.ct.index := rfl

/-! ### `State.insertIndex` -/

@[simp] theorem State.insertIndex_tb (h : Nat) (id : Word32) (s : State) : (s.insertIndex h id).tb = s.tb := rfl
@[simp] theorem State.insertIndex_ps (h : Nat) (id : Word32) (s : State) : (s.insertIndex h id).ps = s.ps := rfl
@[simp] theorem State.insertIndex_zm (h : Nat) (id : Word32) (s : State) : (s.insertIndex h id).zm = s.zm := rfl
@[simp] theorem State.insertIndex_pt (h : Nat) (id : Word32) (s : State) : (s.insertIndex h id).pt = s.pt := rfl
@[simp] theorem State.insertIndex_ae (h : Nat) (id : Word32) (s : State) : (s.insertIndex h id).ae = s.ae := rfl
@[simp] theorem State.insertIndex_hu (h : Nat) (id : Word32) (s : State) : (s.insertIndex h id).hu = s.hu := rfl
@[simp] theorem State.insertIndex_au (h : Nat) (id : Word32) (s : State) : (s.insertIndex h id).au = s.au := rfl
@[simp] theorem State.insertIndex_li (h : Nat) (id : Word32) (s : State) : (s.insertIndex h id).li = s.li := rfl
@[simp] theorem State.insertIndex_freeCount (h : Nat) (id : Word32) (s : State) :
    (s.insertIndex h id).freeCount = s.freeCount := rfl
@[simp] theorem State.insertIndex_pending (h : Nat) (id : Word32) (s : State) :
    (s.insertIndex h id).pending = s.pending := rfl
@[simp] theorem State.insertIndex_slots (h : Nat) (id : Word32) (s : State) :
    (s.insertIndex h id).ct.slots = s.ct.slots := rfl
@[simp] theorem State.insertIndex_members (h : Nat) (id : Word32) (s : State) :
    (s.insertIndex h id).ct.members = s.ct.members := rfl
@[simp] theorem State.insertIndex_stage (h : Nat) (id : Word32) (s : State) :
    (s.insertIndex h id).ct.stage = s.ct.stage := rfl

/-! ### `State.removeIndex` -/

@[simp] theorem State.removeIndex_tb (h : Nat) (s : State) : (s.removeIndex h).tb = s.tb := rfl
@[simp] theorem State.removeIndex_ps (h : Nat) (s : State) : (s.removeIndex h).ps = s.ps := rfl
@[simp] theorem State.removeIndex_zm (h : Nat) (s : State) : (s.removeIndex h).zm = s.zm := rfl
@[simp] theorem State.removeIndex_pt (h : Nat) (s : State) : (s.removeIndex h).pt = s.pt := rfl
@[simp] theorem State.removeIndex_ae (h : Nat) (s : State) : (s.removeIndex h).ae = s.ae := rfl
@[simp] theorem State.removeIndex_hu (h : Nat) (s : State) : (s.removeIndex h).hu = s.hu := rfl
@[simp] theorem State.removeIndex_au (h : Nat) (s : State) : (s.removeIndex h).au = s.au := rfl
@[simp] theorem State.removeIndex_li (h : Nat) (s : State) : (s.removeIndex h).li = s.li := rfl
@[simp] theorem State.removeIndex_freeCount (h : Nat) (s : State) : (s.removeIndex h).freeCount = s.freeCount := rfl
@[simp] theorem State.removeIndex_pending (h : Nat) (s : State) : (s.removeIndex h).pending = s.pending := rfl
@[simp] theorem State.removeIndex_slots (h : Nat) (s : State) : (s.removeIndex h).ct.slots = s.ct.slots := rfl
@[simp] theorem State.removeIndex_members (h : Nat) (s : State) : (s.removeIndex h).ct.members = s.ct.members := rfl
@[simp] theorem State.removeIndex_stage (h : Nat) (s : State) : (s.removeIndex h).ct.stage = s.ct.stage := rfl

/-! ### `State.evaluateLines` -/

@[simp] theorem State.evaluateLines_tb (s : State) : (s.evaluateLines).tb = s.tb := rfl
@[simp] theorem State.evaluateLines_ps (s : State) : (s.evaluateLines).ps = s.ps := rfl
@[simp] theorem State.evaluateLines_zm (s : State) : (s.evaluateLines).zm = s.zm := rfl
@[simp] theorem State.evaluateLines_pt (s : State) : (s.evaluateLines).pt = s.pt := rfl
@[simp] theorem State.evaluateLines_ct (s : State) : (s.evaluateLines).ct = s.ct := rfl
@[simp] theorem State.evaluateLines_ae (s : State) : (s.evaluateLines).ae = s.ae := rfl
@[simp] theorem State.evaluateLines_hu (s : State) : (s.evaluateLines).hu = s.hu := rfl
@[simp] theorem State.evaluateLines_li (s : State) : (s.evaluateLines).li = s.li := rfl
@[simp] theorem State.evaluateLines_freeCount (s : State) : (s.evaluateLines).freeCount = s.freeCount := rfl
@[simp] theorem State.evaluateLines_pending (s : State) : (s.evaluateLines).pending = s.pending := rfl
@[simp] theorem State.evaluateLines_attention (s : State) : (s.evaluateLines).au.attention = s.au.attention := rfl

/-! ### `State.refreshLines` -/

@[simp] theorem State.refreshLines_tb (s : State) : (s.refreshLines).tb = s.tb := rfl
@[simp] theorem State.refreshLines_ps (s : State) : (s.refreshLines).ps = s.ps := rfl
@[simp] theorem State.refreshLines_zm (s : State) : (s.refreshLines).zm = s.zm := rfl
@[simp] theorem State.refreshLines_pt (s : State) : (s.refreshLines).pt = s.pt := rfl
@[simp] theorem State.refreshLines_ct (s : State) : (s.refreshLines).ct = s.ct := rfl
@[simp] theorem State.refreshLines_ae (s : State) : (s.refreshLines).ae = s.ae := rfl
@[simp] theorem State.refreshLines_hu (s : State) : (s.refreshLines).hu = s.hu := rfl
@[simp] theorem State.refreshLines_li (s : State) : (s.refreshLines).li = s.li := rfl
@[simp] theorem State.refreshLines_freeCount (s : State) : (s.refreshLines).freeCount = s.freeCount := rfl
@[simp] theorem State.refreshLines_pending (s : State) : (s.refreshLines).pending = s.pending := rfl
@[simp] theorem State.refreshLines_attention (s : State) : (s.refreshLines).au.attention = s.au.attention := rfl

/-! ### `State.endIgnored` -/

@[simp] theorem State.endIgnored_tb (s : State) : (s.endIgnored).tb = s.tb := rfl
@[simp] theorem State.endIgnored_ps (s : State) : (s.endIgnored).ps = s.ps := rfl
@[simp] theorem State.endIgnored_zm (s : State) : (s.endIgnored).zm = s.zm := rfl
@[simp] theorem State.endIgnored_pt (s : State) : (s.endIgnored).pt = s.pt := rfl
@[simp] theorem State.endIgnored_ct (s : State) : (s.endIgnored).ct = s.ct := rfl
@[simp] theorem State.endIgnored_ae (s : State) : (s.endIgnored).ae = s.ae := rfl
@[simp] theorem State.endIgnored_hu (s : State) : (s.endIgnored).hu = s.hu := rfl
@[simp] theorem State.endIgnored_au (s : State) : (s.endIgnored).au = s.au := rfl
@[simp] theorem State.endIgnored_pending (s : State) : (s.endIgnored).pending = s.pending := rfl

/-! ### `State.discardFrame` -/

@[simp] theorem State.discardFrame_tb (w : Nat) (s : State) : (s.discardFrame w).tb = s.tb := rfl
@[simp] theorem State.discardFrame_ps (w : Nat) (s : State) : (s.discardFrame w).ps = s.ps := rfl
@[simp] theorem State.discardFrame_zm (w : Nat) (s : State) : (s.discardFrame w).zm = s.zm := rfl
@[simp] theorem State.discardFrame_pt (w : Nat) (s : State) : (s.discardFrame w).pt = s.pt := rfl
@[simp] theorem State.discardFrame_ct (w : Nat) (s : State) : (s.discardFrame w).ct = s.ct := rfl
@[simp] theorem State.discardFrame_ae (w : Nat) (s : State) : (s.discardFrame w).ae = s.ae := rfl
@[simp] theorem State.discardFrame_hu (w : Nat) (s : State) : (s.discardFrame w).hu = s.hu := rfl
@[simp] theorem State.discardFrame_au (w : Nat) (s : State) : (s.discardFrame w).au = s.au := rfl
@[simp] theorem State.discardFrame_freeCount (w : Nat) (s : State) : (s.discardFrame w).freeCount = s.freeCount := rfl
@[simp] theorem State.discardFrame_pending (w : Nat) (s : State) : (s.discardFrame w).pending = s.pending := rfl

/-! ### `State.takeTransaction` -/

@[simp] theorem State.takeTransaction_tb (w : Nat) (s : State) : (s.takeTransaction w).tb = s.tb := rfl
@[simp] theorem State.takeTransaction_ps (w : Nat) (s : State) : (s.takeTransaction w).ps = s.ps := rfl
@[simp] theorem State.takeTransaction_zm (w : Nat) (s : State) : (s.takeTransaction w).zm = s.zm := rfl
@[simp] theorem State.takeTransaction_pt (w : Nat) (s : State) : (s.takeTransaction w).pt = s.pt := rfl
@[simp] theorem State.takeTransaction_ct (w : Nat) (s : State) : (s.takeTransaction w).ct = s.ct := rfl
@[simp] theorem State.takeTransaction_ae (w : Nat) (s : State) : (s.takeTransaction w).ae = s.ae := rfl
@[simp] theorem State.takeTransaction_hu (w : Nat) (s : State) : (s.takeTransaction w).hu = s.hu := rfl
@[simp] theorem State.takeTransaction_au (w : Nat) (s : State) : (s.takeTransaction w).au = s.au := rfl
@[simp] theorem State.takeTransaction_freeCount (w : Nat) (s : State) :
    (s.takeTransaction w).freeCount = s.freeCount := rfl
@[simp] theorem State.takeTransaction_pending (w : Nat) (s : State) : (s.takeTransaction w).pending = s.pending := rfl

/-! ### `State.setExecuting` -/

@[simp] theorem State.setExecuting_tb (r : Reply) (s : State) : (s.setExecuting r).tb = s.tb := rfl
@[simp] theorem State.setExecuting_ps (r : Reply) (s : State) : (s.setExecuting r).ps = s.ps := rfl
@[simp] theorem State.setExecuting_zm (r : Reply) (s : State) : (s.setExecuting r).zm = s.zm := rfl
@[simp] theorem State.setExecuting_pt (r : Reply) (s : State) : (s.setExecuting r).pt = s.pt := rfl
@[simp] theorem State.setExecuting_ct (r : Reply) (s : State) : (s.setExecuting r).ct = s.ct := rfl
@[simp] theorem State.setExecuting_ae (r : Reply) (s : State) : (s.setExecuting r).ae = s.ae := rfl
@[simp] theorem State.setExecuting_hu (r : Reply) (s : State) : (s.setExecuting r).hu = s.hu := rfl
@[simp] theorem State.setExecuting_au (r : Reply) (s : State) : (s.setExecuting r).au = s.au := rfl
@[simp] theorem State.setExecuting_freeCount (r : Reply) (s : State) :
    (s.setExecuting r).freeCount = s.freeCount := rfl
@[simp] theorem State.setExecuting_pending (r : Reply) (s : State) : (s.setExecuting r).pending = s.pending := rfl

/-! ### `State.clearBuffer` -/

@[simp] theorem State.clearBuffer_tb (s : State) : (s.clearBuffer).tb = s.tb := rfl
@[simp] theorem State.clearBuffer_ps (s : State) : (s.clearBuffer).ps = s.ps := rfl
@[simp] theorem State.clearBuffer_zm (s : State) : (s.clearBuffer).zm = s.zm := rfl
@[simp] theorem State.clearBuffer_pt (s : State) : (s.clearBuffer).pt = s.pt := rfl
@[simp] theorem State.clearBuffer_ct (s : State) : (s.clearBuffer).ct = s.ct := rfl
@[simp] theorem State.clearBuffer_ae (s : State) : (s.clearBuffer).ae = s.ae := rfl
@[simp] theorem State.clearBuffer_au (s : State) : (s.clearBuffer).au = s.au := rfl
@[simp] theorem State.clearBuffer_li (s : State) : (s.clearBuffer).li = s.li := rfl
@[simp] theorem State.clearBuffer_freeCount (s : State) : (s.clearBuffer).freeCount = s.freeCount := rfl
@[simp] theorem State.clearBuffer_pending (s : State) : (s.clearBuffer).pending = s.pending := rfl
@[simp] theorem State.clearBuffer_window (s : State) : s.clearBuffer.hu.window = s.hu.window := rfl
@[simp] theorem State.clearBuffer_parts (s : State) : s.clearBuffer.hu.parts = [] := rfl

/-! ### `State.setDefrost` -/

@[simp] theorem State.setDefrost_tb (b : Bool) (s : State) : (s.setDefrost b).tb = s.tb := rfl
@[simp] theorem State.setDefrost_ps (b : Bool) (s : State) : (s.setDefrost b).ps = s.ps := rfl
@[simp] theorem State.setDefrost_pt (b : Bool) (s : State) : (s.setDefrost b).pt = s.pt := rfl
@[simp] theorem State.setDefrost_ct (b : Bool) (s : State) : (s.setDefrost b).ct = s.ct := rfl
@[simp] theorem State.setDefrost_ae (b : Bool) (s : State) : (s.setDefrost b).ae = s.ae := rfl
@[simp] theorem State.setDefrost_hu (b : Bool) (s : State) : (s.setDefrost b).hu = s.hu := rfl
@[simp] theorem State.setDefrost_au (b : Bool) (s : State) : (s.setDefrost b).au = s.au := rfl
@[simp] theorem State.setDefrost_li (b : Bool) (s : State) : (s.setDefrost b).li = s.li := rfl
@[simp] theorem State.setDefrost_freeCount (b : Bool) (s : State) : (s.setDefrost b).freeCount = s.freeCount := rfl
@[simp] theorem State.setDefrost_pending (b : Bool) (s : State) : (s.setDefrost b).pending = s.pending := rfl
@[simp] theorem State.setDefrost_zones (b : Bool) (s : State) : (s.setDefrost b).zm.zones = s.zm.zones := rfl
@[simp] theorem State.setDefrost_comps (b : Bool) (s : State) : (s.setDefrost b).zm.comps = s.zm.comps := rfl

/-! ### `State.expireHold` -/

@[simp] theorem State.expireHold_tb (z : Nat) (s : State) : (s.expireHold z).tb = s.tb := rfl
@[simp] theorem State.expireHold_ps (z : Nat) (s : State) : (s.expireHold z).ps = s.ps := rfl
@[simp] theorem State.expireHold_pt (z : Nat) (s : State) : (s.expireHold z).pt = s.pt := rfl
@[simp] theorem State.expireHold_ct (z : Nat) (s : State) : (s.expireHold z).ct = s.ct := rfl
@[simp] theorem State.expireHold_ae (z : Nat) (s : State) : (s.expireHold z).ae = s.ae := rfl
@[simp] theorem State.expireHold_hu (z : Nat) (s : State) : (s.expireHold z).hu = s.hu := rfl
@[simp] theorem State.expireHold_au (z : Nat) (s : State) : (s.expireHold z).au = s.au := rfl
@[simp] theorem State.expireHold_li (z : Nat) (s : State) : (s.expireHold z).li = s.li := rfl
@[simp] theorem State.expireHold_freeCount (z : Nat) (s : State) : (s.expireHold z).freeCount = s.freeCount := rfl
@[simp] theorem State.expireHold_pending (z : Nat) (s : State) : (s.expireHold z).pending = s.pending := rfl
@[simp] theorem State.expireHold_comps (z : Nat) (s : State) : (s.expireHold z).zm.comps = s.zm.comps := rfl

/-! ### `State.expireDwell` -/

@[simp] theorem State.expireDwell_tb (c : Nat) (s : State) : (s.expireDwell c).tb = s.tb := rfl
@[simp] theorem State.expireDwell_ps (c : Nat) (s : State) : (s.expireDwell c).ps = s.ps := rfl
@[simp] theorem State.expireDwell_pt (c : Nat) (s : State) : (s.expireDwell c).pt = s.pt := rfl
@[simp] theorem State.expireDwell_ct (c : Nat) (s : State) : (s.expireDwell c).ct = s.ct := rfl
@[simp] theorem State.expireDwell_ae (c : Nat) (s : State) : (s.expireDwell c).ae = s.ae := rfl
@[simp] theorem State.expireDwell_hu (c : Nat) (s : State) : (s.expireDwell c).hu = s.hu := rfl
@[simp] theorem State.expireDwell_li (c : Nat) (s : State) : (s.expireDwell c).li = s.li := rfl
@[simp] theorem State.expireDwell_freeCount (c : Nat) (s : State) : (s.expireDwell c).freeCount = s.freeCount := rfl
@[simp] theorem State.expireDwell_pending (c : Nat) (s : State) : (s.expireDwell c).pending = s.pending := rfl
@[simp] theorem State.expireDwell_zones (c : Nat) (s : State) : (s.expireDwell c).zm.zones = s.zm.zones := rfl

/-! ### `State.expireAllowance` -/

@[simp] theorem State.expireAllowance_tb (c : Nat) (s : State) : (s.expireAllowance c).tb = s.tb := rfl
@[simp] theorem State.expireAllowance_ps (c : Nat) (s : State) : (s.expireAllowance c).ps = s.ps := rfl
@[simp] theorem State.expireAllowance_pt (c : Nat) (s : State) : (s.expireAllowance c).pt = s.pt := rfl
@[simp] theorem State.expireAllowance_ct (c : Nat) (s : State) : (s.expireAllowance c).ct = s.ct := rfl
@[simp] theorem State.expireAllowance_ae (c : Nat) (s : State) : (s.expireAllowance c).ae = s.ae := rfl
@[simp] theorem State.expireAllowance_hu (c : Nat) (s : State) : (s.expireAllowance c).hu = s.hu := rfl
@[simp] theorem State.expireAllowance_li (c : Nat) (s : State) : (s.expireAllowance c).li = s.li := rfl
@[simp] theorem State.expireAllowance_freeCount (c : Nat) (s : State) :
    (s.expireAllowance c).freeCount = s.freeCount := rfl
@[simp] theorem State.expireAllowance_pending (c : Nat) (s : State) : (s.expireAllowance c).pending = s.pending := rfl
@[simp] theorem State.expireAllowance_zones (c : Nat) (s : State) : (s.expireAllowance c).zm.zones = s.zm.zones := rfl

/-! ### `State.formResponse` -/

@[simp] theorem State.formResponse_tb (r : Reply) (s : State) : (s.formResponse r).tb = s.tb := rfl
@[simp] theorem State.formResponse_ps (r : Reply) (s : State) : (s.formResponse r).ps = s.ps := rfl
@[simp] theorem State.formResponse_zm (r : Reply) (s : State) : (s.formResponse r).zm = s.zm := rfl
@[simp] theorem State.formResponse_pt (r : Reply) (s : State) : (s.formResponse r).pt = s.pt := rfl
@[simp] theorem State.formResponse_ct (r : Reply) (s : State) : (s.formResponse r).ct = s.ct := rfl
@[simp] theorem State.formResponse_ae (r : Reply) (s : State) : (s.formResponse r).ae = s.ae := rfl
@[simp] theorem State.formResponse_hu (r : Reply) (s : State) : (s.formResponse r).hu = s.hu := rfl
@[simp] theorem State.formResponse_au (r : Reply) (s : State) : (s.formResponse r).au = s.au := rfl
@[simp] theorem State.formResponse_freeCount (r : Reply) (s : State) :
    (s.formResponse r).freeCount = s.freeCount := rfl
@[simp] theorem State.formResponse_pending (r : Reply) (s : State) : (s.formResponse r).pending = s.pending := rfl

/-! ### `State.raise?` -/

@[simp] theorem State.raise?_tb (k : Option Kind) (s : State) : (s.raise? k).tb = s.tb := by cases k <;> rfl
@[simp] theorem State.raise?_ps (k : Option Kind) (s : State) : (s.raise? k).ps = s.ps := by cases k <;> rfl
@[simp] theorem State.raise?_zm (k : Option Kind) (s : State) : (s.raise? k).zm = s.zm := by cases k <;> rfl
@[simp] theorem State.raise?_pt (k : Option Kind) (s : State) : (s.raise? k).pt = s.pt := by cases k <;> rfl
@[simp] theorem State.raise?_ct (k : Option Kind) (s : State) : (s.raise? k).ct = s.ct := by cases k <;> rfl
@[simp] theorem State.raise?_ae (k : Option Kind) (s : State) : (s.raise? k).ae = s.ae := by cases k <;> rfl
@[simp] theorem State.raise?_hu (k : Option Kind) (s : State) : (s.raise? k).hu = s.hu := by cases k <;> rfl
@[simp] theorem State.raise?_li (k : Option Kind) (s : State) : (s.raise? k).li = s.li := by cases k <;> rfl
@[simp] theorem State.raise?_freeCount (k : Option Kind) (s : State) :
    (s.raise? k).freeCount = s.freeCount := by cases k <;> rfl
@[simp] theorem State.raise?_pending (k : Option Kind) (s : State) :
    (s.raise? k).pending = s.pending := by cases k <;> rfl
@[simp] theorem State.raise?_lines (k : Option Kind) (s : State) : (s.raise? k).au.lines = s.au.lines := by
  cases k <;> rfl

/-! ### `State.joinList` -/

@[simp] theorem State.joinList_tb (h : Nat) (c : Custody) (s : State) :
    (s.joinList h c).tb = s.tb := by cases c <;> rfl
@[simp] theorem State.joinList_ps (h : Nat) (c : Custody) (s : State) :
    (s.joinList h c).ps = s.ps := by cases c <;> rfl
@[simp] theorem State.joinList_zm (h : Nat) (c : Custody) (s : State) :
    (s.joinList h c).zm = s.zm := by cases c <;> rfl
@[simp] theorem State.joinList_pt (h : Nat) (c : Custody) (s : State) :
    (s.joinList h c).pt = s.pt := by cases c <;> rfl
@[simp] theorem State.joinList_ae (h : Nat) (c : Custody) (s : State) :
    (s.joinList h c).ae = s.ae := by cases c <;> rfl
@[simp] theorem State.joinList_hu (h : Nat) (c : Custody) (s : State) :
    (s.joinList h c).hu = s.hu := by cases c <;> rfl
@[simp] theorem State.joinList_au (h : Nat) (c : Custody) (s : State) :
    (s.joinList h c).au = s.au := by cases c <;> rfl
@[simp] theorem State.joinList_li (h : Nat) (c : Custody) (s : State) :
    (s.joinList h c).li = s.li := by cases c <;> rfl
@[simp] theorem State.joinList_freeCount (h : Nat) (c : Custody) (s : State) :
    (s.joinList h c).freeCount = s.freeCount := by cases c <;> rfl
@[simp] theorem State.joinList_pending (h : Nat) (c : Custody) (s : State) :
    (s.joinList h c).pending = s.pending := by cases c <;> rfl
@[simp] theorem State.joinList_slots (h : Nat) (c : Custody) (s : State) :
    (s.joinList h c).ct.slots = s.ct.slots := by
  cases c <;> rfl
@[simp] theorem State.joinList_index (h : Nat) (c : Custody) (s : State) :
    (s.joinList h c).ct.index = s.ct.index := by
  cases c <;> rfl

/-! ### What is read after an update of something else -/

@[simp] theorem State.zoneAt_raise (k : Kind) (s : State) (j : Nat) : (s.raise k).zoneAt j = s.zoneAt j := by
  cases j <;> rfl
@[simp] theorem State.compAt_raise (k : Kind) (s : State) (j : Nat) : (s.raise k).compAt j = s.compAt j := by
  cases j <;> rfl
@[simp] theorem State.probeAt_raise (k : Kind) (s : State) (j : Nat) : (s.raise k).probeAt j = s.probeAt j := rfl
@[simp] theorem State.profileAt_raise (k : Kind) (s : State) (j : Nat) :
    (s.raise k).profileAt j = s.profileAt j := rfl
@[simp] theorem State.membersOf_raise (k : Kind) (s : State) (j : Nat) : (s.raise k).membersOf j = s.membersOf j := by
  cases j <;> rfl
@[simp] theorem State.compPresent_raise (k : Kind) (s : State) (j : Nat) :
    (s.raise k).compPresent j = s.compPresent j := rfl
@[simp] theorem State.zoneAt_setRecord (h : Nat) (r : Option Record) (s : State) (j : Nat) :
    (s.setRecord h r).zoneAt j = s.zoneAt j := by
  cases j <;> rfl
@[simp] theorem State.compAt_setRecord (h : Nat) (r : Option Record) (s : State) (j : Nat) :
    (s.setRecord h r).compAt j = s.compAt j := by
  cases j <;> rfl
@[simp] theorem State.probeAt_setRecord (h : Nat) (r : Option Record) (s : State) (j : Nat) :
    (s.setRecord h r).probeAt j = s.probeAt j := rfl
@[simp] theorem State.profileAt_setRecord (h : Nat) (r : Option Record) (s : State) (j : Nat) :
    (s.setRecord h r).profileAt j = s.profileAt j := rfl
@[simp] theorem State.membersOf_setRecord (h : Nat) (r : Option Record) (s : State) (j : Nat) :
    (s.setRecord h r).membersOf j = s.membersOf j := by
  cases j <;> rfl
@[simp] theorem State.compPresent_setRecord (h : Nat) (r : Option Record) (s : State) (j : Nat) :
    (s.setRecord h r).compPresent j = s.compPresent j := rfl
@[simp] theorem State.compAt_modifyZone (z : Nat) (f : Zone → Zone) (s : State) (j : Nat) :
    (s.modifyZone z f).compAt j = s.compAt j := by
  cases j <;> rfl
@[simp] theorem State.probeAt_modifyZone (z : Nat) (f : Zone → Zone) (s : State) (j : Nat) :
    (s.modifyZone z f).probeAt j = s.probeAt j := rfl
@[simp] theorem State.profileAt_modifyZone (z : Nat) (f : Zone → Zone) (s : State) (j : Nat) :
    (s.modifyZone z f).profileAt j = s.profileAt j := rfl
@[simp] theorem State.membersOf_modifyZone (z : Nat) (f : Zone → Zone) (s : State) (j : Nat) :
    (s.modifyZone z f).membersOf j = s.membersOf j := by
  cases j <;> rfl
@[simp] theorem State.compPresent_modifyZone (z : Nat) (f : Zone → Zone) (s : State) (j : Nat) :
    (s.modifyZone z f).compPresent j = s.compPresent j := rfl
@[simp] theorem State.zoneAt_modifyComp (c : Nat) (f : Compartment → Compartment) (s : State) (j : Nat) :
    (s.modifyComp c f).zoneAt j = s.zoneAt j := by
  cases j <;> rfl
@[simp] theorem State.probeAt_modifyComp (c : Nat) (f : Compartment → Compartment) (s : State) (j : Nat) :
    (s.modifyComp c f).probeAt j = s.probeAt j := rfl
@[simp] theorem State.profileAt_modifyComp (c : Nat) (f : Compartment → Compartment) (s : State) (j : Nat) :
    (s.modifyComp c f).profileAt j = s.profileAt j := rfl
@[simp] theorem State.membersOf_modifyComp (c : Nat) (f : Compartment → Compartment) (s : State) (j : Nat) :
    (s.modifyComp c f).membersOf j = s.membersOf j := by
  cases j <;> rfl
@[simp] theorem State.compPresent_modifyComp (c : Nat) (f : Compartment → Compartment) (s : State) (j : Nat) :
    (s.modifyComp c f).compPresent j = s.compPresent j := rfl
@[simp] theorem State.zoneAt_mapPresentComps (f : Nat → Compartment → Compartment) (s : State) (j : Nat) :
    (s.mapPresentComps f).zoneAt j = s.zoneAt j := by
  cases j <;> rfl
@[simp] theorem State.probeAt_mapPresentComps (f : Nat → Compartment → Compartment) (s : State) (j : Nat) :
    (s.mapPresentComps f).probeAt j = s.probeAt j := rfl
@[simp] theorem State.profileAt_mapPresentComps (f : Nat → Compartment → Compartment) (s : State) (j : Nat) :
    (s.mapPresentComps f).profileAt j = s.profileAt j := rfl
@[simp] theorem State.membersOf_mapPresentComps (f : Nat → Compartment → Compartment) (s : State) (j : Nat) :
    (s.mapPresentComps f).membersOf j = s.membersOf j := by
  cases j <;> rfl
@[simp] theorem State.compPresent_mapPresentComps (f : Nat → Compartment → Compartment) (s : State) (j : Nat) :
    (s.mapPresentComps f).compPresent j = s.compPresent j := rfl
@[simp] theorem State.zoneAt_modifyProbe (p : Nat) (f : Probe → Probe) (s : State) (j : Nat) :
    (s.modifyProbe p f).zoneAt j = s.zoneAt j := by
  cases j <;> rfl
@[simp] theorem State.compAt_modifyProbe (p : Nat) (f : Probe → Probe) (s : State) (j : Nat) :
    (s.modifyProbe p f).compAt j = s.compAt j := by
  cases j <;> rfl
@[simp] theorem State.profileAt_modifyProbe (p : Nat) (f : Probe → Probe) (s : State) (j : Nat) :
    (s.modifyProbe p f).profileAt j = s.profileAt j := rfl
@[simp] theorem State.membersOf_modifyProbe (p : Nat) (f : Probe → Probe) (s : State) (j : Nat) :
    (s.modifyProbe p f).membersOf j = s.membersOf j := by
  cases j <;> rfl
@[simp] theorem State.compPresent_modifyProbe (p : Nat) (f : Probe → Probe) (s : State) (j : Nat) :
    (s.modifyProbe p f).compPresent j = s.compPresent j := rfl
@[simp] theorem State.zoneAt_modifyProfile (i : Nat) (f : Profile → Profile) (s : State) (j : Nat) :
    (s.modifyProfile i f).zoneAt j = s.zoneAt j := by
  cases j <;> rfl
@[simp] theorem State.compAt_modifyProfile (i : Nat) (f : Profile → Profile) (s : State) (j : Nat) :
    (s.modifyProfile i f).compAt j = s.compAt j := by
  cases j <;> rfl
@[simp] theorem State.probeAt_modifyProfile (i : Nat) (f : Profile → Profile) (s : State) (j : Nat) :
    (s.modifyProfile i f).probeAt j = s.probeAt j := rfl
@[simp] theorem State.membersOf_modifyProfile (i : Nat) (f : Profile → Profile) (s : State) (j : Nat) :
    (s.modifyProfile i f).membersOf j = s.membersOf j := by
  cases j <;> rfl
@[simp] theorem State.compPresent_modifyProfile (i : Nat) (f : Profile → Profile) (s : State) (j : Nat) :
    (s.modifyProfile i f).compPresent j = s.compPresent j := rfl
@[simp] theorem State.zoneAt_modifyLine (l : Nat) (f : Line → Line) (s : State) (j : Nat) :
    (s.modifyLine l f).zoneAt j = s.zoneAt j := by
  cases j <;> rfl
@[simp] theorem State.compAt_modifyLine (l : Nat) (f : Line → Line) (s : State) (j : Nat) :
    (s.modifyLine l f).compAt j = s.compAt j := by
  cases j <;> rfl
@[simp] theorem State.probeAt_modifyLine (l : Nat) (f : Line → Line) (s : State) (j : Nat) :
    (s.modifyLine l f).probeAt j = s.probeAt j := rfl
@[simp] theorem State.profileAt_modifyLine (l : Nat) (f : Line → Line) (s : State) (j : Nat) :
    (s.modifyLine l f).profileAt j = s.profileAt j := rfl
@[simp] theorem State.membersOf_modifyLine (l : Nat) (f : Line → Line) (s : State) (j : Nat) :
    (s.modifyLine l f).membersOf j = s.membersOf j := by
  cases j <;> rfl
@[simp] theorem State.compPresent_modifyLine (l : Nat) (f : Line → Line) (s : State) (j : Nat) :
    (s.modifyLine l f).compPresent j = s.compPresent j := rfl
@[simp] theorem State.zoneAt_leaveLists (h : Nat) (s : State) (j : Nat) : (s.leaveLists h).zoneAt j = s.zoneAt j := by
  cases j <;> rfl
@[simp] theorem State.compAt_leaveLists (h : Nat) (s : State) (j : Nat) : (s.leaveLists h).compAt j = s.compAt j := by
  cases j <;> rfl
@[simp] theorem State.probeAt_leaveLists (h : Nat) (s : State) (j : Nat) :
    (s.leaveLists h).probeAt j = s.probeAt j := rfl
@[simp] theorem State.profileAt_leaveLists (h : Nat) (s : State) (j : Nat) :
    (s.leaveLists h).profileAt j = s.profileAt j := rfl
@[simp] theorem State.compPresent_leaveLists (h : Nat) (s : State) (j : Nat) :
    (s.leaveLists h).compPresent j = s.compPresent j := rfl
@[simp] theorem State.zoneAt_insertIndex (h : Nat) (id : Word32) (s : State) (j : Nat) :
    (s.insertIndex h id).zoneAt j = s.zoneAt j := by
  cases j <;> rfl
@[simp] theorem State.compAt_insertIndex (h : Nat) (id : Word32) (s : State) (j : Nat) :
    (s.insertIndex h id).compAt j = s.compAt j := by
  cases j <;> rfl
@[simp] theorem State.probeAt_insertIndex (h : Nat) (id : Word32) (s : State) (j : Nat) :
    (s.insertIndex h id).probeAt j = s.probeAt j := rfl
@[simp] theorem State.profileAt_insertIndex (h : Nat) (id : Word32) (s : State) (j : Nat) :
    (s.insertIndex h id).profileAt j = s.profileAt j := rfl
@[simp] theorem State.membersOf_insertIndex (h : Nat) (id : Word32) (s : State) (j : Nat) :
    (s.insertIndex h id).membersOf j = s.membersOf j := by
  cases j <;> rfl
@[simp] theorem State.compPresent_insertIndex (h : Nat) (id : Word32) (s : State) (j : Nat) :
    (s.insertIndex h id).compPresent j = s.compPresent j := rfl
@[simp] theorem State.zoneAt_removeIndex (h : Nat) (s : State) (j : Nat) :
    (s.removeIndex h).zoneAt j = s.zoneAt j := by
  cases j <;> rfl
@[simp] theorem State.compAt_removeIndex (h : Nat) (s : State) (j : Nat) :
    (s.removeIndex h).compAt j = s.compAt j := by
  cases j <;> rfl
@[simp] theorem State.probeAt_removeIndex (h : Nat) (s : State) (j : Nat) :
    (s.removeIndex h).probeAt j = s.probeAt j := rfl
@[simp] theorem State.profileAt_removeIndex (h : Nat) (s : State) (j : Nat) :
    (s.removeIndex h).profileAt j = s.profileAt j := rfl
@[simp] theorem State.membersOf_removeIndex (h : Nat) (s : State) (j : Nat) :
    (s.removeIndex h).membersOf j = s.membersOf j := by
  cases j <;> rfl
@[simp] theorem State.compPresent_removeIndex (h : Nat) (s : State) (j : Nat) :
    (s.removeIndex h).compPresent j = s.compPresent j := rfl
@[simp] theorem State.zoneAt_evaluateLines (s : State) (j : Nat) : (s.evaluateLines).zoneAt j = s.zoneAt j := by
  cases j <;> rfl
@[simp] theorem State.compAt_evaluateLines (s : State) (j : Nat) : (s.evaluateLines).compAt j = s.compAt j := by
  cases j <;> rfl
@[simp] theorem State.probeAt_evaluateLines (s : State) (j : Nat) : (s.evaluateLines).probeAt j = s.probeAt j := rfl
@[simp] theorem State.profileAt_evaluateLines (s : State) (j : Nat) :
    (s.evaluateLines).profileAt j = s.profileAt j := rfl
@[simp] theorem State.membersOf_evaluateLines (s : State) (j : Nat) :
    (s.evaluateLines).membersOf j = s.membersOf j := by
  cases j <;> rfl
@[simp] theorem State.compPresent_evaluateLines (s : State) (j : Nat) :
    (s.evaluateLines).compPresent j = s.compPresent j := rfl
@[simp] theorem State.zoneAt_refreshLines (s : State) (j : Nat) : (s.refreshLines).zoneAt j = s.zoneAt j := by
  cases j <;> rfl
@[simp] theorem State.compAt_refreshLines (s : State) (j : Nat) : (s.refreshLines).compAt j = s.compAt j := by
  cases j <;> rfl
@[simp] theorem State.probeAt_refreshLines (s : State) (j : Nat) : (s.refreshLines).probeAt j = s.probeAt j := rfl
@[simp] theorem State.profileAt_refreshLines (s : State) (j : Nat) :
    (s.refreshLines).profileAt j = s.profileAt j := rfl
@[simp] theorem State.membersOf_refreshLines (s : State) (j : Nat) :
    (s.refreshLines).membersOf j = s.membersOf j := by
  cases j <;> rfl
@[simp] theorem State.compPresent_refreshLines (s : State) (j : Nat) :
    (s.refreshLines).compPresent j = s.compPresent j := rfl
@[simp] theorem State.zoneAt_endIgnored (s : State) (j : Nat) : (s.endIgnored).zoneAt j = s.zoneAt j := by
  cases j <;> rfl
@[simp] theorem State.compAt_endIgnored (s : State) (j : Nat) : (s.endIgnored).compAt j = s.compAt j := by
  cases j <;> rfl
@[simp] theorem State.probeAt_endIgnored (s : State) (j : Nat) : (s.endIgnored).probeAt j = s.probeAt j := rfl
@[simp] theorem State.profileAt_endIgnored (s : State) (j : Nat) : (s.endIgnored).profileAt j = s.profileAt j := rfl
@[simp] theorem State.membersOf_endIgnored (s : State) (j : Nat) : (s.endIgnored).membersOf j = s.membersOf j := by
  cases j <;> rfl
@[simp] theorem State.compPresent_endIgnored (s : State) (j : Nat) :
    (s.endIgnored).compPresent j = s.compPresent j := rfl
@[simp] theorem State.zoneAt_discardFrame (w : Nat) (s : State) (j : Nat) :
    (s.discardFrame w).zoneAt j = s.zoneAt j := by
  cases j <;> rfl
@[simp] theorem State.compAt_discardFrame (w : Nat) (s : State) (j : Nat) :
    (s.discardFrame w).compAt j = s.compAt j := by
  cases j <;> rfl
@[simp] theorem State.probeAt_discardFrame (w : Nat) (s : State) (j : Nat) :
    (s.discardFrame w).probeAt j = s.probeAt j := rfl
@[simp] theorem State.profileAt_discardFrame (w : Nat) (s : State) (j : Nat) :
    (s.discardFrame w).profileAt j = s.profileAt j := rfl
@[simp] theorem State.membersOf_discardFrame (w : Nat) (s : State) (j : Nat) :
    (s.discardFrame w).membersOf j = s.membersOf j := by
  cases j <;> rfl
@[simp] theorem State.compPresent_discardFrame (w : Nat) (s : State) (j : Nat) :
    (s.discardFrame w).compPresent j = s.compPresent j := rfl
@[simp] theorem State.zoneAt_takeTransaction (w : Nat) (s : State) (j : Nat) :
    (s.takeTransaction w).zoneAt j = s.zoneAt j := by
  cases j <;> rfl
@[simp] theorem State.compAt_takeTransaction (w : Nat) (s : State) (j : Nat) :
    (s.takeTransaction w).compAt j = s.compAt j := by
  cases j <;> rfl
@[simp] theorem State.probeAt_takeTransaction (w : Nat) (s : State) (j : Nat) :
    (s.takeTransaction w).probeAt j = s.probeAt j := rfl
@[simp] theorem State.profileAt_takeTransaction (w : Nat) (s : State) (j : Nat) :
    (s.takeTransaction w).profileAt j = s.profileAt j := rfl
@[simp] theorem State.membersOf_takeTransaction (w : Nat) (s : State) (j : Nat) :
    (s.takeTransaction w).membersOf j = s.membersOf j := by
  cases j <;> rfl
@[simp] theorem State.compPresent_takeTransaction (w : Nat) (s : State) (j : Nat) :
    (s.takeTransaction w).compPresent j = s.compPresent j := rfl
@[simp] theorem State.zoneAt_setExecuting (r : Reply) (s : State) (j : Nat) :
    (s.setExecuting r).zoneAt j = s.zoneAt j := by
  cases j <;> rfl
@[simp] theorem State.compAt_setExecuting (r : Reply) (s : State) (j : Nat) :
    (s.setExecuting r).compAt j = s.compAt j := by
  cases j <;> rfl
@[simp] theorem State.probeAt_setExecuting (r : Reply) (s : State) (j : Nat) :
    (s.setExecuting r).probeAt j = s.probeAt j := rfl
@[simp] theorem State.profileAt_setExecuting (r : Reply) (s : State) (j : Nat) :
    (s.setExecuting r).profileAt j = s.profileAt j := rfl
@[simp] theorem State.membersOf_setExecuting (r : Reply) (s : State) (j : Nat) :
    (s.setExecuting r).membersOf j = s.membersOf j := by
  cases j <;> rfl
@[simp] theorem State.compPresent_setExecuting (r : Reply) (s : State) (j : Nat) :
    (s.setExecuting r).compPresent j = s.compPresent j := rfl
@[simp] theorem State.zoneAt_clearBuffer (s : State) (j : Nat) : (s.clearBuffer).zoneAt j = s.zoneAt j := by
  cases j <;> rfl
@[simp] theorem State.compAt_clearBuffer (s : State) (j : Nat) : (s.clearBuffer).compAt j = s.compAt j := by
  cases j <;> rfl
@[simp] theorem State.probeAt_clearBuffer (s : State) (j : Nat) : (s.clearBuffer).probeAt j = s.probeAt j := rfl
@[simp] theorem State.profileAt_clearBuffer (s : State) (j : Nat) : (s.clearBuffer).profileAt j = s.profileAt j := rfl
@[simp] theorem State.membersOf_clearBuffer (s : State) (j : Nat) : (s.clearBuffer).membersOf j = s.membersOf j := by
  cases j <;> rfl
@[simp] theorem State.compPresent_clearBuffer (s : State) (j : Nat) :
    (s.clearBuffer).compPresent j = s.compPresent j := rfl
@[simp] theorem State.zoneAt_setDefrost (b : Bool) (s : State) (j : Nat) :
    (s.setDefrost b).zoneAt j = s.zoneAt j := by
  cases j <;> rfl
@[simp] theorem State.compAt_setDefrost (b : Bool) (s : State) (j : Nat) :
    (s.setDefrost b).compAt j = s.compAt j := by
  cases j <;> rfl
@[simp] theorem State.probeAt_setDefrost (b : Bool) (s : State) (j : Nat) :
    (s.setDefrost b).probeAt j = s.probeAt j := rfl
@[simp] theorem State.profileAt_setDefrost (b : Bool) (s : State) (j : Nat) :
    (s.setDefrost b).profileAt j = s.profileAt j := rfl
@[simp] theorem State.membersOf_setDefrost (b : Bool) (s : State) (j : Nat) :
    (s.setDefrost b).membersOf j = s.membersOf j := by
  cases j <;> rfl
@[simp] theorem State.compPresent_setDefrost (b : Bool) (s : State) (j : Nat) :
    (s.setDefrost b).compPresent j = s.compPresent j := rfl
@[simp] theorem State.compAt_expireHold (z : Nat) (s : State) (j : Nat) : (s.expireHold z).compAt j = s.compAt j := by
  cases j <;> rfl
@[simp] theorem State.probeAt_expireHold (z : Nat) (s : State) (j : Nat) :
    (s.expireHold z).probeAt j = s.probeAt j := rfl
@[simp] theorem State.profileAt_expireHold (z : Nat) (s : State) (j : Nat) :
    (s.expireHold z).profileAt j = s.profileAt j := rfl
@[simp] theorem State.membersOf_expireHold (z : Nat) (s : State) (j : Nat) :
    (s.expireHold z).membersOf j = s.membersOf j := by
  cases j <;> rfl
@[simp] theorem State.compPresent_expireHold (z : Nat) (s : State) (j : Nat) :
    (s.expireHold z).compPresent j = s.compPresent j := rfl
@[simp] theorem State.zoneAt_expireDwell (c : Nat) (s : State) (j : Nat) :
    (s.expireDwell c).zoneAt j = s.zoneAt j := by
  cases j <;> rfl
@[simp] theorem State.probeAt_expireDwell (c : Nat) (s : State) (j : Nat) :
    (s.expireDwell c).probeAt j = s.probeAt j := rfl
@[simp] theorem State.profileAt_expireDwell (c : Nat) (s : State) (j : Nat) :
    (s.expireDwell c).profileAt j = s.profileAt j := rfl
@[simp] theorem State.membersOf_expireDwell (c : Nat) (s : State) (j : Nat) :
    (s.expireDwell c).membersOf j = s.membersOf j := by
  cases j <;> rfl
@[simp] theorem State.compPresent_expireDwell (c : Nat) (s : State) (j : Nat) :
    (s.expireDwell c).compPresent j = s.compPresent j := rfl
@[simp] theorem State.zoneAt_expireAllowance (c : Nat) (s : State) (j : Nat) :
    (s.expireAllowance c).zoneAt j = s.zoneAt j := by
  cases j <;> rfl
@[simp] theorem State.probeAt_expireAllowance (c : Nat) (s : State) (j : Nat) :
    (s.expireAllowance c).probeAt j = s.probeAt j := rfl
@[simp] theorem State.profileAt_expireAllowance (c : Nat) (s : State) (j : Nat) :
    (s.expireAllowance c).profileAt j = s.profileAt j := rfl
@[simp] theorem State.membersOf_expireAllowance (c : Nat) (s : State) (j : Nat) :
    (s.expireAllowance c).membersOf j = s.membersOf j := by
  cases j <;> rfl
@[simp] theorem State.compPresent_expireAllowance (c : Nat) (s : State) (j : Nat) :
    (s.expireAllowance c).compPresent j = s.compPresent j := rfl
@[simp] theorem State.zoneAt_formResponse (r : Reply) (s : State) (j : Nat) :
    (s.formResponse r).zoneAt j = s.zoneAt j := by
  cases j <;> rfl
@[simp] theorem State.compAt_formResponse (r : Reply) (s : State) (j : Nat) :
    (s.formResponse r).compAt j = s.compAt j := by
  cases j <;> rfl
@[simp] theorem State.probeAt_formResponse (r : Reply) (s : State) (j : Nat) :
    (s.formResponse r).probeAt j = s.probeAt j := rfl
@[simp] theorem State.profileAt_formResponse (r : Reply) (s : State) (j : Nat) :
    (s.formResponse r).profileAt j = s.profileAt j := rfl
@[simp] theorem State.membersOf_formResponse (r : Reply) (s : State) (j : Nat) :
    (s.formResponse r).membersOf j = s.membersOf j := by
  cases j <;> rfl
@[simp] theorem State.compPresent_formResponse (r : Reply) (s : State) (j : Nat) :
    (s.formResponse r).compPresent j = s.compPresent j := rfl
@[simp] theorem State.zoneAt_raise? (k : Option Kind) (s : State) (j : Nat) : (s.raise? k).zoneAt j = s.zoneAt j := by
  cases k <;> simp [State.raise?]
@[simp] theorem State.zoneAt_joinList (h : Nat) (c : Custody) (s : State) (j : Nat) :
    (s.joinList h c).zoneAt j = s.zoneAt j := by
  cases c <;> (cases j <;> rfl)
@[simp] theorem State.compAt_raise? (k : Option Kind) (s : State) (j : Nat) : (s.raise? k).compAt j = s.compAt j := by
  cases k <;> simp [State.raise?]
@[simp] theorem State.compAt_joinList (h : Nat) (c : Custody) (s : State) (j : Nat) :
    (s.joinList h c).compAt j = s.compAt j := by
  cases c <;> (cases j <;> rfl)
@[simp] theorem State.probeAt_raise? (k : Option Kind) (s : State) (j : Nat) :
    (s.raise? k).probeAt j = s.probeAt j := by
  cases k <;> simp [State.raise?]
@[simp] theorem State.probeAt_joinList (h : Nat) (c : Custody) (s : State) (j : Nat) :
    (s.joinList h c).probeAt j = s.probeAt j := by
  cases c <;> rfl
@[simp] theorem State.profileAt_raise? (k : Option Kind) (s : State) (j : Nat) :
    (s.raise? k).profileAt j = s.profileAt j := by
  cases k <;> simp [State.raise?]
@[simp] theorem State.profileAt_joinList (h : Nat) (c : Custody) (s : State) (j : Nat) :
    (s.joinList h c).profileAt j = s.profileAt j := by
  cases c <;> rfl
@[simp] theorem State.membersOf_raise? (k : Option Kind) (s : State) (j : Nat) :
    (s.raise? k).membersOf j = s.membersOf j := by
  cases k <;> simp [State.raise?]
@[simp] theorem State.compPresent_raise? (k : Option Kind) (s : State) (j : Nat) :
    (s.raise? k).compPresent j = s.compPresent j := by
  cases k <;> simp [State.raise?]
@[simp] theorem State.compPresent_joinList (h : Nat) (c : Custody) (s : State) (j : Nat) :
    (s.joinList h c).compPresent j = s.compPresent j := by
  cases c <;> rfl

end Sys2Proof.Machine
end

