-- ==== Sys2Proof/Laws/Ops.lean ====
section
/-! SUPPORT. One lemma per shared operation that says what it can do: what is read after a write, membership of the
attention set and the lists, the outcomes of a command transaction, the lines after a step. -/

namespace Sys2Proof.Machine

/-! ### The attention set -/

theorem mem_raiseIn (x k : Kind) (set : List Kind) : x ∈ raiseIn k set ↔ x = k ∨ x ∈ set := by
  have hall : x ∈ Kind.all := by cases x <;> decide
  simp [raiseIn, hall]

theorem State.mem_raise (x k : Kind) (s : State) :
    x ∈ (s.raise k).au.attention ↔ x = k ∨ x ∈ s.au.attention := mem_raiseIn x k _

theorem State.mem_raise? (x : Kind) (k : Option Kind) (s : State) :
    x ∈ (s.raise? k).au.attention ↔ x ∈ s.au.attention ∨ k = some x := by
  cases k with
  | none => simp [State.raise?]
  | some k => simp [State.raise?, mem_raiseIn, eq_comm, or_comm]

/-! ### Reading after writing -/

theorem State.record?_congr {s t : State} (h : t.ct.slots = s.ct.slots) (k : Nat) : t.record? k = s.record? k := by
  simp only [State.record?, h]

@[simp] theorem State.record?_raise? (k : Option Kind) (s : State) (h : Nat) :
    (s.raise? k).record? h = s.record? h := State.record?_congr (by simp) h

@[simp] theorem State.record?_raise (k : Kind) (s : State) (h : Nat) : (s.raise k).record? h = s.record? h := rfl

@[simp] theorem State.record?_leaveLists (k : Nat) (s : State) (h : Nat) :
    (s.leaveLists k).record? h = s.record? h := rfl

@[simp] theorem State.record?_joinList (k : Nat) (c : Custody) (s : State) (h : Nat) :
    (s.joinList k c).record? h = s.record? h := State.record?_congr (by simp) h

@[simp] theorem State.record?_insertIndex (k : Nat) (id : Word32) (s : State) (h : Nat) :
    (s.insertIndex k id).record? h = s.record? h := rfl

@[simp] theorem State.record?_removeIndex (k : Nat) (s : State) (h : Nat) :
    (s.removeIndex k).record? h = s.record? h := rfl

@[simp] theorem State.record?_modifyProfile (i : Nat) (f : Profile → Profile) (s : State) (h : Nat) :
    (s.modifyProfile i f).record? h = s.record? h := rfl

@[simp] theorem State.record?_evaluateLines (s : State) (h : Nat) : s.evaluateLines.record? h = s.record? h := rfl

/-- A written slot reads what was written, the others as before; a slot above 47 takes nothing. -/
theorem State.record?_setRecord (s : State) (h k : Nat) (r : Option Record) :
    (s.setRecord h r).record? k = if k = h ∧ h < 48 then r else s.record? k := by
  simp only [State.record?, State.setRecord, Vector.getElem?_setIfInBounds]
  by_cases hk : h = k
  · subst hk
    by_cases hb : h < 48
    · simp [hb]
    · simp [hb]
  · simp [hk, eq_comm]

/-- A slot that holds a record lies in the table. -/
theorem State.lt_of_record? {s : State} {h : Nat} {r : Record} (hr : s.record? h = some r) : h < 48 := by
  by_contra hb
  simp [State.record?, hb] at hr

theorem State.zoneAt_modifyZone (s : State) (z k : Nat) (f : Zone → Zone) :
    (s.modifyZone z f).zoneAt k = if k = z ∧ 1 ≤ z ∧ z ≤ 5 then f (s.zoneAt z) else s.zoneAt k := by
  cases k with
  | zero => simp only [State.zoneAt]; split <;> rename_i h <;> [omega; rfl]
  | succ n =>
    simp only [State.zoneAt, State.modifyZone, Vector.getElem?_mapIdx]
    by_cases hn : n < 5
    · by_cases hz : n + 1 = z
      · subst hz
        simp [hn]
      · simp [hn, hz]
    · have : ¬(n + 1 = z ∧ 1 ≤ z ∧ z ≤ 5) := by omega
      simp [hn, this]

theorem State.compAt_modifyComp (s : State) (c k : Nat) (f : Compartment → Compartment) :
    (s.modifyComp c f).compAt k = if k = c ∧ 1 ≤ c ∧ c ≤ 4 then f (s.compAt c) else s.compAt k := by
  cases k with
  | zero => simp only [State.compAt]; split <;> rename_i h <;> [omega; rfl]
  | succ n =>
    simp only [State.compAt, State.modifyComp, Vector.getElem?_mapIdx]
    by_cases hn : n < 4
    · by_cases hz : n + 1 = c
      · subst hz
        simp [hn]
      · simp [hn, hz]
    · have : ¬(n + 1 = c ∧ 1 ≤ c ∧ c ≤ 4) := by omega
      simp [hn, this]

theorem State.compAt_mapPresentComps (s : State) (f : Nat → Compartment → Compartment) (k : Nat) :
    (s.mapPresentComps f).compAt k = if s.compPresent k then f k (s.compAt k) else s.compAt k := by
  cases k with
  | zero => simp [State.compAt, State.compPresent]
  | succ n =>
    simp only [State.compAt, State.mapPresentComps, Vector.getElem?_mapIdx]
    by_cases hn : n < 4
    · simp [hn]
    · have : s.compPresent (n + 1) = false := by simp [State.compPresent]; omega
      simp [hn, this]

theorem State.probeAt_modifyProbe (s : State) (p k : Nat) (f : Probe → Probe) :
    (s.modifyProbe p f).probeAt k = if k = p ∧ p < 8 then f (s.probeAt p) else s.probeAt k := by
  simp only [State.probeAt, State.modifyProbe, Vector.getElem?_mapIdx]
  by_cases hn : k < 8
  · by_cases hz : k = p
    · subst hz; simp [hn]
    · simp [hn, hz]
  · have : ¬(k = p ∧ p < 8) := by omega
    simp [hn, this]

theorem State.profileAt_modifyProfile (s : State) (i k : Nat) (f : Profile → Profile) :
    (s.modifyProfile i f).profileAt k = if k = i ∧ i < 8 then f (s.profileAt i) else s.profileAt k := by
  simp only [State.profileAt, State.modifyProfile, Vector.getElem?_mapIdx]
  by_cases hn : k < 8
  · by_cases hz : k = i
    · subst hz; simp [hn]
    · simp [hn, hz]
  · have : ¬(k = i ∧ i < 8) := by omega
    simp [hn, this]

/-! ### The lists -/

theorem State.membersOf_leaveLists (s : State) (h c : Nat) :
    (s.leaveLists h).membersOf c = (s.membersOf c).filter (· != h) := by
  cases c with
  | zero => rfl
  | succ n =>
    simp only [State.membersOf, State.leaveLists]
    by_cases hn : n < 4 <;> simp [hn]

theorem State.membersOf_joinList (s : State) (h c d t : Nat) :
    (s.joinList h (.loaded d t)).membersOf c =
      if c = d ∧ 1 ≤ d ∧ d ≤ 4 then s.membersOf c ++ [h] else s.membersOf c := by
  cases c with
  | zero => simp only [State.membersOf]; split <;> rename_i h <;> [omega; rfl]
  | succ n =>
    simp only [State.membersOf, State.joinList, Vector.getElem?_mapIdx]
    by_cases hn : n < 4
    · by_cases hz : n + 1 = d
      · subst hz; simp [hn]
      · simp [hn, hz]
    · have : ¬(n + 1 = d ∧ 1 ≤ d ∧ d ≤ 4) := by omega
      simp [hn, this]

@[simp] theorem State.stage_leaveLists (s : State) (h : Nat) :
    (s.leaveLists h).ct.stage = s.ct.stage.filter (· != h) := rfl

/-! ### The lines after a step -/

theorem State.level_congr {s t : State} (c : Condition) (h1 : t.tb = s.tb) (h2 : t.ps = s.ps) (h3 : t.zm = s.zm)
    (h4 : t.ct = s.ct) (h5 : t.au.attention = s.au.attention) : t.level c = s.level c := by
  cases c <;> simp only [State.level, State.zoneAt, State.compAt, State.zoneMembers, State.membersOf,
    State.compPresent, State.freeSlots, h1, h2, h3, h4, h5]
  rfl

@[simp] theorem State.level_evaluateLines (s : State) (c : Condition) : s.evaluateLines.level c = s.level c :=
  State.level_congr c rfl rfl rfl rfl rfl

/-- What one evaluation makes of a line (R172, R173, R176). -/
theorem Line.evaluate_spec (run level : Bool) (l : Line) :
    (l.evaluate run level).condition = l.condition ∧ (l.evaluate run level).mode = l.mode ∧
      (l.evaluate run level).reference = level ∧
      ((l.evaluate run level).latch = true ↔
        l.latch = true ∨ (run = true ∧ l.mode = .latch ∧ l.reference = false ∧ level = true)) ∧
      if run = true ∧ l.mode = .pulse ∧ l.reference = false ∧ level = true then
        (l.evaluate run level).pulseEnd = some l.pulses ∧ (l.evaluate run level).pulses = l.pulses + 1
      else (l.evaluate run level).pulseEnd = l.pulseEnd ∧ (l.evaluate run level).pulses = l.pulses := by
  obtain ⟨c, m, r, la, p, n⟩ := l
  cases r <;> cases level <;> cases run <;> cases m <;> simp [Line.evaluate, Line.startPulse]

theorem State.line_evaluateLines (s : State) (i : Fin 2) :
    s.evaluateLines.au.lines[i] = (s.au.lines[i]).evaluate s.running (s.level (s.au.lines[i]).condition) := by
  simp [State.evaluateLines]

/-- Evaluating the lines at the end of a step that left them alone gives what `LinesStepped` says. -/
theorem State.linesStepped_evaluateLines {s m : State} (hl : m.au.lines = s.au.lines) :
    LinesStepped s m.evaluateLines := by
  intro i
  have hs := Line.evaluate_spec m.running (m.level (m.au.lines[i]).condition) m.au.lines[i]
  rw [← State.line_evaluateLines] at hs
  simpa only [hl, State.level_evaluateLines, State.evaluateLines_tb, State.running, beq_iff_eq] using hs

/-- After an evaluation every reference is its condition's level. -/
theorem State.linesCurrent_evaluateLines (s : State) : s.evaluateLines.linesCurrent := by
  intro i
  have hs := Line.evaluate_spec s.running (s.level (s.au.lines[i]).condition) s.au.lines[i]
  rw [← State.line_evaluateLines] at hs
  rw [hs.2.2.1, hs.1, State.level_evaluateLines]

@[simp] theorem State.level_refreshLines (s : State) (c : Condition) : s.refreshLines.level c = s.level c :=
  State.level_congr c rfl rfl rfl rfl rfl

/-- A line set afresh shows the level now, with no latch and no pulse (R176). -/
theorem State.line_refreshLines (s : State) (i : Fin 2) :
    s.refreshLines.au.lines[i] =
      { s.au.lines[i] with reference := s.level (s.au.lines[i]).condition, latch := false, pulseEnd := none } := by
  simp [State.refreshLines, Line.refresh]

/-! ### Zones, compartments and probes after a change to all of them -/

theorem State.zoneAt_of_zones {s t : State} {f : Zone → Zone}
    (h : t.zm.zones = s.zm.zones.mapIdx fun _ x => f x) {z : Nat} (h1 : 1 ≤ z) (h5 : z ≤ 5) : t.zoneAt z = f (s.zoneAt z) := by
  obtain ⟨n, rfl⟩ : ∃ n, z = n + 1 := ⟨z - 1, by omega⟩
  simp [State.zoneAt, h, show n < 5 by omega]

theorem State.compAt_of_comps {s t : State} {f : Compartment → Compartment}
    (h : t.zm.comps = s.zm.comps.mapIdx fun _ x => f x) {c : Nat} (h1 : 1 ≤ c) (h4 : c ≤ 4) : t.compAt c = f (s.compAt c) := by
  obtain ⟨n, rfl⟩ : ∃ n, c = n + 1 := ⟨c - 1, by omega⟩
  simp [State.compAt, h, show n < 4 by omega]

theorem State.probeAt_of_probes {s t : State} {f : Probe → Probe}
    (h : t.ps.probes = s.ps.probes.mapIdx fun _ x => f x) {p : Nat} (hp : p < 8) : t.probeAt p = f (s.probeAt p) := by
  simp [State.probeAt, h, hp]

/-! ### Events and command transactions -/

theorem State.event_of {holds : Bool} {f : State → State} {s : State} (h : holds = true) :
    s.event holds f = (f s).evaluateLines := by simp [State.event, h]

theorem State.event_not {holds : Bool} {f : State → State} {s : State} (h : holds = false) : s.event holds f = s := by
  simp [State.event, h]

/-- A part whose link is ready is live. -/
theorem State.linkLive_of_ready {s : State} (h : s.ready) : s.linkLive = true := by
  simp [State.linkLive, State.running, h.1, h.2.1]

theorem State.receiveCommand_inert {code : Byte} {fr : Frame} {body : State → State × Reply} {s : State}
    (h : s.linkLive = false) : s.receiveCommand code fr body = s := by simp [State.receiveCommand, h]

theorem State.receiveCommand_waiting {code : Byte} {fr : Frame} {body : State → State × Reply} {s : State}
    (h : s.linkLive = true) (hw : s.li.waitRise = true) : s.receiveCommand code fr body = s.endIgnored := by
  simp [State.receiveCommand, h, hw]

theorem State.receiveCommand_busy {code : Byte} {fr : Frame} {body : State → State × Reply} {s : State}
    (h : s.linkLive = true) (hw : s.li.waitRise = false) (he : s.li.executing.isSome = true) :
    s.receiveCommand code fr body = s.discardFrame fr.whole := by
  simp [State.receiveCommand, h, hw, he]

theorem State.receiveCommand_framed {code : Byte} {fr : Frame} {body : State → State × Reply} {s : State}
    {c : ResultCode} (h : s.ready) (hc : frameRefusal? code fr = some c) :
    s.receiveCommand code fr body = (s.takeTransaction fr.whole).setExecuting (refusal c) := by
  simp [State.receiveCommand, State.linkLive_of_ready h, h.2.2.1, h.2.2.2, hc]

theorem State.receiveCommand_carried {code : Byte} {fr : Frame} {body : State → State × Reply} {s : State}
    (h : s.ready) (hc : frameRefusal? code fr = none) :
    s.receiveCommand code fr body =
      ((body (s.takeTransaction fr.whole)).1.setExecuting (body (s.takeTransaction fr.whole)).2).evaluateLines := by
  simp [State.receiveCommand, State.linkLive_of_ready h, h.2.2.1, h.2.2.2, hc]

/-- The frame of a command sent with exactly the length its code lists passes the frame checks. -/
theorem frameRefusal?_exact {code : Byte} {n : Nat} (h : payloadLength? code = some n) (hn : n ≤ 40) :
    frameRefusal? code (Frame.exact n) = none := by
  simp [frameRefusal?, frameFormed, Frame.exact, h, payloadMax, Nat.mod_eq_of_lt (show n < 256 by omega), hn]

/-- A command sent whole to a ready link is carried out as `Carried` says, once its body is known to leave the link,
the lines and the model's own fields alone. -/
theorem carried_of {i : Instr} {code : Byte} {n : Nat} {body : State → State × Reply} {s m : State} {r : Reply}
    (hx : exec i s = .next (s.receiveCommand code (Frame.exact n) body)) (hs : s.ready)
    (hn : payloadLength? code = some n) (h40 : n ≤ 40) (hb : body (s.takeTransaction (2 + n)) = (m, r))
    (hli : m.li = (s.takeTransaction (2 + n)).li) (hl : m.au.lines = s.au.lines)
    (hf : m.freeCount = s.freeCount) (hp : m.pending = s.pending) :
    Carried i n s (m.setExecuting r).evaluateLines r := by
  refine ⟨⟨?_, ?_, by simpa using hf, by simpa using hp⟩, State.linesStepped_evaluateLines (by simpa using hl)⟩
  · rw [hx, State.receiveCommand_carried hs (frameRefusal?_exact hn h40)]
    simp only [Frame.exact, hb]
  · simp [State.setExecuting, hli, State.takeTransaction, commandSdo, hs.2.2.1]

/-- A refusal as `Refuses` says, once the first failing check is known. -/
theorem refuses_of {i : Instr} {code : Byte} {n : Nat} {checks : State → List (Bool × ResultCode)}
    {effect : State → State × Reply} {s : State} {c : ResultCode}
    (hx : exec i s = .next (s.receiveCommand code (Frame.exact n) (command checks effect))) (hs : s.ready)
    (hn : payloadLength? code = some n) (h40 : n ≤ 40)
    (hc : firstRefusal (checks (s.takeTransaction (2 + n))) = some c) : Refuses i n s c := by
  refine ⟨_, carried_of hx hs hn h40 (m := s.takeTransaction (2 + n)) (r := ⟨c, []⟩) ?_ rfl rfl rfl rfl, ?_, rfl⟩
  · simp [command, hc, refusal]
  · simp [Unmoved]

theorem command_refused {checks : State → List (Bool × ResultCode)} {effect : State → State × Reply} {s : State}
    {c : ResultCode} (h : firstRefusal (checks s) = some c) : command checks effect s = (s, refusal c) := by
  simp [command, h]

theorem command_carried {checks : State → List (Bool × ResultCode)} {effect : State → State × Reply} {s : State}
    (h : firstRefusal (checks s) = none) : command checks effect s = effect s := by
  simp [command, h]

/-! ### The settle and the commands that settle -/

/-- A settle at or before the last charge changes nothing (R103). -/
theorem Record.settle_idle {g : Readings} {t since : Nat} {r : Record} (h : r.lastCharge? = some since)
    (ht : t ≤ since) : r.settle g t = (r, none) := by
  simp [Record.settle, h, ht]

/-- Blocks that a settle leaves standing. -/
theorem State.settle_stands (s : State) (h t : Nat) :
    (s.settle h t).tb = s.tb ∧ (s.settle h t).ps = s.ps ∧ (s.settle h t).zm = s.zm ∧ (s.settle h t).pt = s.pt ∧
      (s.settle h t).ct.index = s.ct.index ∧ (s.settle h t).ct.members = s.ct.members ∧
      (s.settle h t).ct.stage = s.ct.stage ∧ (s.settle h t).ae = s.ae ∧ (s.settle h t).hu = s.hu ∧
      (s.settle h t).au.lines = s.au.lines ∧ (s.settle h t).li = s.li ∧ (s.settle h t).freeCount = s.freeCount ∧
      (s.settle h t).pending = s.pending := by
  unfold State.settle
  split <;> simp

/-- What a settle leaves in the table: the settled record in its slot, the others as they stood. -/
theorem State.record?_settle (s : State) (h t k : Nat) :
    (s.settle h t).record? k =
      if k = h then (s.record? h).map fun r => (r.settle (s.readings r) t).1 else s.record? k := by
  unfold State.settle
  split
  · rename_i hn; by_cases hk : k = h <;> simp [hk, hn]
  · rename_i r hr
    have := State.lt_of_record? hr
    by_cases hk : k = h <;> simp [State.record?_setRecord, hk, hr, this]

/-- What an evaluation of the status leaves standing (R113, R114). -/
theorem Record.evaluate_stands (p : Profile) (r : Record) :
    (r.evaluate p).1 = { r with status := (r.evaluate p).1.status, fold := (r.evaluate p).1.fold } := by
  unfold Record.evaluate
  split
  · unfold Record.rise
    split <;> simp [Record.foldStep]
  · rfl

/-- What a settle leaves standing: ID, profile, hand-offs, place and kind of custody (R103). -/
theorem Record.settle_stands (g : Readings) (t : Nat) (r : Record) :
    (r.settle g t).1.id = r.id ∧ (r.settle g t).1.profile = r.profile ∧ (r.settle g t).1.handOffs = r.handOffs ∧
      (r.settle g t).1.place = r.place ∧ (r.settle g t).1.isLoaded = r.isLoaded ∧
      (r.settle g t).1.isStaged = r.isStaged ∧ ((r.settle g t).1.lastCharge?.isSome = r.lastCharge?.isSome) := by
  unfold Record.settle
  split
  · simp
  · rename_i since hs
    split
    · simp
    · rw [Record.evaluate_stands]
      have hc : (r.charge g since (t - since) t).custody = r.custody.chargedAt t := by
        unfold Record.charge chargeBlind chargeSensed; split <;> rfl
      have hd : (r.charge g since (t - since) t).id = r.id ∧ (r.charge g since (t - since) t).profile = r.profile ∧
          (r.charge g since (t - since) t).handOffs = r.handOffs := by
        unfold Record.charge chargeBlind chargeSensed; split <;> exact ⟨rfl, rfl, rfl⟩
      refine ⟨hd.1, hd.2.1, hd.2.2, ?_, ?_, ?_, ?_⟩ <;>
        simp only [Record.place, Record.isLoaded, Record.isStaged, Record.lastCharge?, hc] <;>
        cases r.custody <;> rfl

/-- The settle raises the record's kind and nothing else in the attention set (R114, R167). -/
theorem State.mem_settle {s : State} {h t : Nat} {r : Record} (hr : s.record? h = some r) (x : Kind) :
    x ∈ (s.settle h t).au.attention ↔ x ∈ s.au.attention ∨ (r.settle (s.readings r) t).2 = some x := by
  simp only [State.settle, hr]
  rw [State.mem_raise?]
  rfl

theorem State.stage_joinList (s : State) (h : Nat) (c : Custody) (hc : ∀ d t, c = .loaded d t → d ≠ 5) :
    (s.joinList h c).ct.stage = s.ct.stage ++ (if c.place = 5 then [h] else []) := by
  cases c with
  | loaded d t => simp [State.joinList, Custody.place, hc d t rfl]
  | staged t => simp [State.joinList, Custody.place]
  | handover f d => simp [State.joinList, Custody.place]
  | closed k => simp [State.joinList, Custody.place]

theorem State.members_joinList (s : State) (h : Nat) (cu : Custody) {c : Nat} (h1 : 1 ≤ c) (h4 : c ≤ 4) :
    (s.joinList h cu).membersOf c = s.membersOf c ++ (if c = cu.place then [h] else []) := by
  cases cu with
  | loaded d t =>
    rw [State.membersOf_joinList]
    by_cases hd : c = d
    · subst hd; simp [Custody.place, h1, h4]
    · simp [Custody.place, hd]
  | staged t => simp [State.joinList, Custody.place, State.membersOf, show c ≠ 5 by omega]
  | handover f d => simp [State.joinList, Custody.place, State.membersOf, show c ≠ 5 by omega]
  | closed k => simp [State.joinList, Custody.place, show c ≠ 6 by omega]

/-- Blocks that joining and leaving lists leave standing. -/
theorem State.lists_stand (s : State) (h : Nat) (cu : Custody) :
    ((s.leaveLists h).joinList h cu).tb = s.tb ∧ ((s.leaveLists h).joinList h cu).ps = s.ps ∧
      ((s.leaveLists h).joinList h cu).zm = s.zm ∧ ((s.leaveLists h).joinList h cu).pt = s.pt ∧
      ((s.leaveLists h).joinList h cu).ct.index = s.ct.index ∧ ((s.leaveLists h).joinList h cu).ae = s.ae ∧
      ((s.leaveLists h).joinList h cu).hu = s.hu ∧ ((s.leaveLists h).joinList h cu).au = s.au ∧
      ((s.leaveLists h).joinList h cu).li = s.li ∧ ((s.leaveLists h).joinList h cu).freeCount = s.freeCount ∧
      ((s.leaveLists h).joinList h cu).pending = s.pending := by
  cases cu <;> simp [State.joinList, State.leaveLists]

/-- Everything steps 1 to 3 of R85 do: the record settled, its step folded from its place to the new place, its custody
and its lists. -/
theorem State.carryOut_spec {s : State} {h : Nat} {r : Record} (code : StepCode) (after : Nat → Custody)
    (hr : s.record? h = some r) :
    let settled := r.settle (s.readings r) s.now
    let custody := after (settled.1.lastCharge?.getD s.now)
    let t := s.carryOut h code after
    t.record? h = some { settled.1.foldStep code r.place custody.place with custody := custody } ∧
      (∀ k, k ≠ h → t.record? k = s.record? k) ∧
      (∀ c, 1 ≤ c → c ≤ 4 →
        t.membersOf c = (s.membersOf c).filter (· != h) ++ (if c = custody.place then [h] else [])) ∧
      ((∀ d n, custody = .loaded d n → d ≠ 5) →
        t.ct.stage = s.ct.stage.filter (· != h) ++ (if custody.place = 5 then [h] else [])) ∧
      (∀ x, x ∈ t.au.attention ↔ x ∈ s.au.attention ∨ settled.2 = some x) ∧ t.ct.index = s.ct.index ∧ t.tb = s.tb ∧
      t.ps = s.ps ∧ t.zm = s.zm ∧ t.pt = s.pt ∧ t.ae = s.ae ∧ t.hu = s.hu ∧ t.au.lines = s.au.lines ∧ t.li = s.li ∧
      t.freeCount = s.freeCount ∧ t.pending = s.pending := by
  intro settled custody t
  have hlt := State.lt_of_record? hr
  have hs : (s.settle h s.now).record? h = some settled.1 := by simp [State.record?_settle, hr, settled]
  have ht : t = (((s.settle h s.now).setRecord h
      (some { settled.1.foldStep code r.place custody.place with custody := custody })).leaveLists h).joinList h
        custody := by
    have hp : settled.1.place = r.place := (Record.settle_stands _ _ _).2.2.2.1
    simp only [t, State.carryOut, hs, hp]
    rfl
  obtain ⟨s1, s2, s3, s4, s5, s6, s7, s8, s9, s10, s11, s12, s13⟩ := State.settle_stands s h s.now
  obtain ⟨l1, l2, l3, l4, l5, l6, l7, l8, l9, l10, l11⟩ := State.lists_stand ((s.settle h s.now).setRecord h
      (some { settled.1.foldStep code r.place custody.place with custody := custody })) h custody
  rw [← ht] at l1 l2 l3 l4 l5 l6 l7 l8 l9 l10 l11
  refine ⟨?_, fun k hk => ?_, fun c h1 h4 => ?_, fun hc => ?_, fun x => ?_, ?_⟩
  · simp [ht, State.record?_setRecord, hlt]
  · simp [ht, State.record?_setRecord, State.record?_settle, hk]
  · rw [ht, State.members_joinList _ _ _ h1 h4, State.membersOf_leaveLists]
    congr 2
    have : ((s.settle h s.now).setRecord h
      (some { settled.1.foldStep code r.place custody.place with custody := custody })).ct.members = s.ct.members := s6
    unfold State.membersOf
    rw [this]
  · rw [ht, State.stage_joinList _ _ _ hc, State.stage_leaveLists]
    congr 2
  · rw [l8]; exact State.mem_settle hr x
  · exact ⟨l5.trans s5, l1.trans s1, l2.trans s2, l3.trans s3, l4.trans s4, l6.trans s8, l7.trans s9,
      (congrArg AlertUnit.lines l8).trans s10, l9.trans s11, l10.trans s12, l11.trans s13⟩

/-- Everything the frozen-interval charge and its caller's step do to a HANDOVER record (R140). -/
theorem State.thaw_spec {s : State} {h frozenAt deadline : Nat} {r : Record} (t : Nat) (code : StepCode)
    (hr : s.record? h = some r) (hc : r.custody = .handover frozenAt deadline) :
    let e := (r.thaw s.tb.degraded s.tb.lastDegraded frozenAt t).evaluate (s.profileAt r.profile)
    let s' := s.thaw h t code
    s'.record? h = some (e.1.foldStep code 5 5) ∧ (∀ k, k ≠ h → s'.record? k = s.record? k) ∧
      (∀ x, x ∈ s'.au.attention ↔ x ∈ s.au.attention ∨ e.2 = some x) ∧ s'.ct.index = s.ct.index ∧
      s'.ct.members = s.ct.members ∧ s'.ct.stage = s.ct.stage ∧ s'.tb = s.tb ∧ s'.ps = s.ps ∧ s'.zm = s.zm ∧
      s'.pt = s.pt ∧ s'.ae = s.ae ∧ s'.hu = s.hu ∧ s'.au.lines = s.au.lines ∧ s'.li = s.li ∧
      s'.freeCount = s.freeCount ∧ s'.pending = s.pending := by
  intro e s'
  have hlt := State.lt_of_record? hr
  have hs : s' = (s.setRecord h (some (e.1.foldStep code 5 5))).raise? e.2 := by
    simp only [s', State.thaw, hr, hc]; rfl
  refine ⟨?_, fun k hk => ?_, fun x => ?_, ?_⟩
  · simp [hs, State.record?_setRecord, hlt]
  · simp [hs, State.record?_setRecord, hk]
  · rw [hs, State.mem_raise?]; rfl
  · simp [hs]

/-- Everything the making of a record in a FREE slot does (R66, R79, R81). -/
theorem State.makeRecord_spec (s : State) {h : Nat} (hh : h < 48) (r : Record) (hp : r.profile < 8) :
    let t := s.makeRecord h r
    t.record? h = some r ∧ (∀ k, k ≠ h → t.record? k = s.record? k) ∧
      t.profileAt r.profile = { s.profileAt r.profile with useCount := (s.profileAt r.profile).useCount + 1 } ∧
      (∀ i, i ≠ r.profile → t.profileAt i = s.profileAt i) ∧
      t.ct.index =
        (((s.setRecord h (some r)).modifyProfile r.profile fun p => { p with useCount := p.useCount + 1 }).insertIndex h
          r.id).ct.index ∧
      (∀ c, 1 ≤ c → c ≤ 4 → t.membersOf c = s.membersOf c ++ (if c = r.place then [h] else [])) ∧
      ((∀ d n, r.custody = .loaded d n → d ≠ 5) →
        t.ct.stage = s.ct.stage ++ (if r.place = 5 then [h] else [])) ∧
      t.tb = s.tb ∧ t.ps = s.ps ∧ t.zm = s.zm ∧ t.ae = s.ae ∧ t.hu = s.hu ∧ t.au = s.au ∧ t.li = s.li ∧
      t.freeCount = s.freeCount ∧ t.pending = s.pending := by
  intro t
  have hj : ∀ (m : State) (cu : Custody), (m.joinList h cu).pt = m.pt ∧ (m.joinList h cu).ct.index = m.ct.index ∧
      (m.joinList h cu).tb = m.tb ∧ (m.joinList h cu).ps = m.ps ∧ (m.joinList h cu).zm = m.zm ∧
      (m.joinList h cu).ae = m.ae ∧ (m.joinList h cu).hu = m.hu ∧ (m.joinList h cu).au = m.au ∧
      (m.joinList h cu).li = m.li ∧ (m.joinList h cu).freeCount = m.freeCount ∧
      (m.joinList h cu).pending = m.pending := by
    intro m cu; cases cu <;> simp [State.joinList]
  obtain ⟨j1, j2, j3, j4, j5, j6, j7, j8, j9, j10, j11⟩ := hj (((s.setRecord h (some r)).modifyProfile r.profile
    fun p => { p with useCount := p.useCount + 1 }).insertIndex h r.id) r.custody
  have hpt : ∀ i, t.profileAt i = ((s.setRecord h (some r)).modifyProfile r.profile
      fun p => { p with useCount := p.useCount + 1 }).profileAt i := by
    intro i; simp only [State.profileAt]; rw [show t.pt = _ from j1]; rfl
  refine ⟨?_, fun k hk => ?_, ?_, fun i hi => ?_, j2, fun c h1 h4 => ?_, fun hc => ?_, j3, j4, j5, j6, j7, j8, j9, j10, j11⟩
  · simp [t, State.makeRecord, State.record?_setRecord, hh]
  · simp [t, State.makeRecord, State.record?_setRecord, hk]
  · rw [hpt, State.profileAt_modifyProfile]; simp [hp]
  · rw [hpt, State.profileAt_modifyProfile]; simp [hi]
  · exact State.members_joinList _ _ _ h1 h4
  · exact State.stage_joinList _ _ _ hc

/-! ### The expiries of a second -/

/-- What every expiry keeps, taking the due ones of a list keeps. -/
theorem State.takeDue_induct {P : State → Prop} {due : Nat → State → Bool} {take : Nat → State → State}
    (hstep : ∀ n s, P s → due n s = true → P (take n s)) (ns : List Nat) {s : State} (h : P s) :
    P (s.takeDue due take ns) := by
  unfold State.takeDue
  induction ns generalizing s with
  | nil => exact h
  | cons n ns ih =>
    rw [List.foldl_cons]
    refine ih ?_
    split
    · exact hstep n s h ‹_›
    · exact h

/-- What each of the four expiries keeps, `State.takeExpiries` keeps. -/
theorem State.takeExpiries_induct {P : State → Prop}
    (hold : ∀ z s, P s → s.holdDue z = true → P (s.expireHold z))
    (dwell : ∀ c s, P s → s.dwellDue c = true → P (s.expireDwell c))
    (allowance : ∀ c s, P s → s.allowanceDue c = true → P (s.expireAllowance c))
    (lapse : ∀ h s, P s → s.lapseDue h = true → P (s.lapse h)) {s : State} (h : P s) : P s.takeExpiries :=
  takeDue_induct lapse _ (takeDue_induct allowance _ (takeDue_induct dwell _ (takeDue_induct hold _ h)))

/-- A slot whose lapse is due holds a frozen record with its deadline now, later than its freezing (R142). -/
theorem State.lapseDue_iff (s : State) (h : Nat) :
    s.lapseDue h = true ↔
      s.tb.power ≠ .off ∧ ∃ r f, s.record? h = some r ∧ r.custody = .handover f s.tb.trip ∧ f < s.tb.trip := by
  unfold State.lapseDue State.powered
  cases hr : s.record? h with
  | none => simp
  | some r =>
    cases hc : r.custody with
    | handover f d =>
      simp only [Option.any_some, Record.lapses, hc, State.now, Bool.and_eq_true, bne_iff_ne, decide_eq_true_eq,
        Option.some.injEq]
      constructor
      · rintro ⟨h, rfl, hf⟩; exact ⟨h, r, f, rfl, by rw [hc], hf⟩
      · rintro ⟨h, _, _, rfl, h2, hf⟩
        rw [hc] at h2
        cases h2
        exact ⟨h, rfl, hf⟩
    | loaded a b => simp [Record.lapses, hc]
    | staged a => simp [Record.lapses, hc]
    | closed a => simp [Record.lapses, hc]

/-- Everything a due lapse does (R142). -/
theorem State.lapse_spec {s : State} {h frozenAt deadline : Nat} {r : Record} (hr : s.record? h = some r)
    (hc : r.custody = .handover frozenAt deadline) :
    let e := (r.thaw s.tb.degraded s.tb.lastDegraded frozenAt s.now).evaluate (s.profileAt r.profile)
    let stepped := e.1.foldStep .lapse 5 5
    let t := s.lapse h
    t.record? h = some { stepped with marks := { stepped.marks with lapsed := true } } ∧
      (∀ k, k ≠ h → t.record? k = s.record? k) ∧
      (∀ x, x ∈ t.au.attention ↔ x ∈ s.au.attention ∨ x = .handoverLapsed ∨ e.2 = some x) ∧
      t.ct.index = s.ct.index ∧ t.ct.members = s.ct.members ∧ t.ct.stage = s.ct.stage ∧ t.tb = s.tb ∧ t.ps = s.ps ∧
      t.zm = s.zm ∧ t.pt = s.pt ∧ t.ae = s.ae ∧ t.hu = s.hu ∧ t.au.lines = s.au.lines ∧ t.li = s.li ∧
      t.freeCount = s.freeCount ∧ t.pending = s.pending := by
  intro e stepped t
  have hlt := State.lt_of_record? hr
  obtain ⟨h1, h2, h3, h4⟩ := State.thaw_spec (s := s) s.now .lapse hr hc
  have ht : t = ((s.thaw h s.now .lapse).setRecord h
      (some { stepped with marks := { stepped.marks with lapsed := true } })).raise .handoverLapsed := by
    simp only [t, State.lapse, State.markLapsed, h1, stepped, e]
  refine ⟨?_, fun k hk => ?_, fun x => ?_, ?_⟩
  · simp [ht, State.record?_setRecord, hlt]
  · simp [ht, State.record?_setRecord, hk, h2 k hk]
  · rw [ht, State.mem_raise, show ((s.thaw h s.now .lapse).setRecord h _).au = (s.thaw h s.now .lapse).au from rfl, h3]
    tauto
  · simpa [ht] using h4

/-- Blocks that the expiries leave standing. -/
theorem State.takeExpiries_stands (s : State) :
    s.takeExpiries.tb = s.tb ∧ s.takeExpiries.ps = s.ps ∧ s.takeExpiries.pt = s.pt ∧ s.takeExpiries.ae = s.ae ∧
      s.takeExpiries.hu = s.hu ∧ s.takeExpiries.ct.index = s.ct.index ∧ s.takeExpiries.ct.members = s.ct.members ∧
      s.takeExpiries.ct.stage = s.ct.stage ∧ s.takeExpiries.au.lines = s.au.lines ∧ s.takeExpiries.li = s.li ∧
      s.takeExpiries.freeCount = s.freeCount ∧ s.takeExpiries.pending = s.pending := by
  refine State.takeExpiries_induct (P := fun t => t.tb = s.tb ∧ t.ps = s.ps ∧ t.pt = s.pt ∧ t.ae = s.ae ∧
      t.hu = s.hu ∧ t.ct.index = s.ct.index ∧ t.ct.members = s.ct.members ∧ t.ct.stage = s.ct.stage ∧
      t.au.lines = s.au.lines ∧ t.li = s.li ∧ t.freeCount = s.freeCount ∧ t.pending = s.pending)
    (fun _ _ h _ => h) (fun _ _ h _ => h) (fun _ _ h _ => h) (fun k t h hd => ?_) ⟨rfl, rfl, rfl, rfl, rfl, rfl, rfl, rfl, rfl, rfl, rfl, rfl⟩
  obtain ⟨-, r, f, hr, hc, -⟩ := (State.lapseDue_iff t k).1 hd
  obtain ⟨-, -, -, l1, l2, l3, l4, l5, l6, l7, l8, l9, l10, l11, l12, l13⟩ := State.lapse_spec hr hc
  rw [l1, l2, l3, l4, l5, l7, l8, l9, l10, l11, l12, l13]
  exact h

/-- Where no expiry is due in the present second, none is taken. -/
theorem State.takeExpiries_idle {s : State} (h : s.noExpiryDue) : s.takeExpiries = s := by
  obtain ⟨h1, h2, h3, h4⟩ := h
  have skip : ∀ (due : Nat → State → Bool) (take : Nat → State → State) (ns : List Nat),
      (∀ n ∈ ns, due n s = false) → s.takeDue due take ns = s := by
    intro due take ns
    unfold State.takeDue
    induction ns with
    | nil => intro _; rfl
    | cons n ns ih =>
      intro hn
      rw [List.foldl_cons, if_neg (by simp [hn n (by simp)])]
      exact ih fun m hm => hn m (by simp [hm])
  simp only [State.takeExpiries]
  rw [skip State.holdDue _ _ ?_, skip State.dwellDue _ _ ?_, skip State.allowanceDue _ _ ?_, skip State.lapseDue _ _ ?_]
  · intro k _
    rw [Bool.eq_false_iff, Ne, State.lapseDue_iff]
    rintro ⟨-, r, f, hr, hc, hf⟩
    exact absurd (h4 k r f hr hc) (by omega)
  · intro c _
    rw [Bool.eq_false_iff]
    intro hd
    simp only [State.allowanceDue, Bool.and_eq_true] at hd
    cases he : (s.compAt c).episode with
    | none => simp [Compartment.allowanceEnds, he] at hd
    | some e =>
      obtain ⟨st, al⟩ := e
      cases al with
      | none => simp [Compartment.allowanceEnds, he] at hd
      | some a =>
        obtain ⟨ra, ex⟩ := a
        have : ex = s.tb.trip := by simpa [Compartment.allowanceEnds, he, State.now] using hd.2
        exact h3 c st ra hd.1.2 (by rw [he, this])
  · intro c _
    rw [Bool.eq_false_iff]
    intro hd
    simp only [State.dwellDue, Bool.and_eq_true, beq_iff_eq] at hd
    exact h2 c hd.1.1.2 hd.1.2 hd.2
  · intro z hz
    have hz' : 1 ≤ z ∧ z ≤ 5 := by simp at hz; omega
    simp [State.holdDue, State.now, h1 z hz'.1 hz'.2]

/-- Taking what is due for a list of numbers is taking the rows of those numbers in turn, but for the lines. -/
theorem rowsTaken_takeDue {row : Nat → Instr} {due : Nat → State → Bool} {take : Nat → State → State}
    (hrow : ∀ n s, exec (row n) s = .next (s.event (due n s) (take n)))
    (hdue : ∀ n (s : State) L, due n { s with au := { s.au with lines := L } } = due n s)
    (htake : ∀ n (s : State) L,
      take n { s with au := { s.au with lines := L } } = { take n s with au := { (take n s).au with lines := L } })
    (ns : List Nat) (s : State) (L : Vector Line 2) :
    ∃ L', RowsTaken (ns.map row) { s with au := { s.au with lines := L } }
      { s.takeDue due take ns with au := { (s.takeDue due take ns).au with lines := L' } } := by
  induction ns generalizing s L with
  | nil => exact ⟨L, rfl⟩
  | cons n ns ih =>
    unfold State.takeDue at ih ⊢
    rw [List.foldl_cons, List.map_cons]
    by_cases hd : due n s = true
    · rw [if_pos hd]
      obtain ⟨L', h⟩ := ih (take n s)
        ({ take n s with au := { (take n s).au with lines := L } } : State).evaluateLines.au.lines
      refine ⟨L', _, hrow n _, ?_⟩
      rw [hdue, State.event_of hd, htake]
      exact h
    · rw [if_neg hd]
      obtain ⟨L', h⟩ := ih s L
      refine ⟨L', _, hrow n _, ?_⟩
      rw [hdue, State.event_not (by simpa using hd)]
      exact h

theorem RowsTaken.append {is js : List Instr} {s u t : State} (h1 : RowsTaken is s u) (h2 : RowsTaken js u t) :
    RowsTaken (is ++ js) s t := by
  induction is generalizing s with
  | nil => rw [show u = s from h1] at h2; exact h2
  | cons i is ih => obtain ⟨v, hv, h⟩ := h1; exact ⟨v, hv, ih h⟩

/-- `State.takeExpiries` makes of zones, compartments, records and attention set what the expiry rows make in turn. -/
theorem State.expiriesTaken_takeExpiries (s : State) : ExpiriesTaken s s.takeExpiries := by
  obtain ⟨L1, h1⟩ := rowsTaken_takeDue (row := Instr.holdExpiry) (due := State.holdDue) (take := State.expireHold)
    (fun _ _ => rfl) (fun _ _ _ => rfl) (fun _ _ _ => rfl) [1, 2, 3, 4, 5] s s.au.lines
  obtain ⟨L2, h2⟩ := rowsTaken_takeDue (row := Instr.dwellExpiry) (due := State.dwellDue) (take := State.expireDwell)
    (fun _ _ => rfl) (fun _ _ _ => rfl) (fun _ _ _ => rfl) [1, 2, 3, 4] _ L1
  obtain ⟨L3, h3⟩ := rowsTaken_takeDue (row := Instr.allowanceExpiry) (due := State.allowanceDue)
    (take := State.expireAllowance) (fun _ _ => rfl) (fun _ _ _ => rfl) (fun _ _ _ => rfl) [1, 2, 3, 4] _ L2
  have hthaw : ∀ k t c (s : State) L, State.thaw k t c { s with au := { s.au with lines := L } } =
      { State.thaw k t c s with au := { (State.thaw k t c s).au with lines := L } } := by
    intro k t c s L
    unfold State.thaw
    rw [show State.record? { s with au := { s.au with lines := L } } k = s.record? k from rfl]
    cases s.record? k with
    | none => rfl
    | some r =>
      cases hc : r.custody with
      | handover f d =>
        simp only [hc]
        rw [show State.profileAt { s with au := { s.au with lines := L } } r.profile = s.profileAt r.profile from rfl]
        cases ((r.thaw s.tb.degraded s.tb.lastDegraded f t).evaluate (s.profileAt r.profile)).2 <;> rfl
      | loaded a b => simp [hc]
      | staged a => simp [hc]
      | closed a => simp [hc]
  have hmark : ∀ k (s : State) L, State.markLapsed k { s with au := { s.au with lines := L } } =
      { State.markLapsed k s with au := { (State.markLapsed k s).au with lines := L } } := by
    intro k s L
    unfold State.markLapsed
    rw [show State.record? { s with au := { s.au with lines := L } } k = s.record? k from rfl]
    cases s.record? k <;> rfl
  obtain ⟨L4, h4⟩ := rowsTaken_takeDue (row := Instr.deadlineLapse) (due := State.lapseDue) (take := State.lapse)
    (fun _ _ => rfl) (fun _ _ _ => rfl)
    (fun n s L => by
      unfold State.lapse
      rw [show State.now { s with au := { s.au with lines := L } } = s.now from rfl, hthaw, hmark]
      rfl) everySlot _ L3
  have hrows : expiryRows = [1, 2, 3, 4, 5].map Instr.holdExpiry ++ [1, 2, 3, 4].map Instr.dwellExpiry ++
      [1, 2, 3, 4].map Instr.allowanceExpiry ++ everySlot.map Instr.deadlineLapse := by unfold expiryRows everySlot; rfl
  have h := ((h1.append h2).append h3).append h4
  rw [← hrows] at h
  refine ⟨_, h, ?_, ?_, ?_⟩ <;> simp only [State.takeExpiries]

/-- The expiries neither read nor change the link. -/
theorem State.takeExpiries_li (s : State) (l : Link) :
    State.takeExpiries { s with li := l } = { s.takeExpiries with li := l } := by
  have comm : ∀ (due : Nat → State → Bool) (take : Nat → State → State),
      (∀ n (s : State), due n { s with li := l } = due n s) →
      (∀ n (s : State), take n { s with li := l } = { take n s with li := l }) →
      ∀ (ns : List Nat) (s : State), State.takeDue due take ns { s with li := l } =
        { s.takeDue due take ns with li := l } := by
    intro due take hd ht ns
    unfold State.takeDue
    induction ns with
    | nil => intro s; rfl
    | cons n ns ih =>
      intro s
      rw [List.foldl_cons, List.foldl_cons, hd]
      split
      · rw [ht]; exact ih _
      · exact ih _
  have hlapse : ∀ n (s : State), State.lapse n { s with li := l } = { State.lapse n s with li := l } := by
    intro n s
    have hthaw : State.thaw n s.now .lapse { s with li := l } = { State.thaw n s.now .lapse s with li := l } := by
      unfold State.thaw
      rw [show State.record? { s with li := l } n = s.record? n from rfl]
      cases s.record? n with
      | none => rfl
      | some r =>
        cases hc : r.custody with
        | handover f d =>
          simp only [hc]
          rw [show State.profileAt { s with li := l } r.profile = s.profileAt r.profile from rfl]
          cases ((r.thaw s.tb.degraded s.tb.lastDegraded f s.now).evaluate (s.profileAt r.profile)).2 <;> rfl
        | loaded a b => simp [hc]
        | staged a => simp [hc]
        | closed a => simp [hc]
    unfold State.lapse
    rw [show State.now { s with li := l } = s.now from rfl, hthaw]
    unfold State.markLapsed
    rw [show State.record? { State.thaw n s.now .lapse s with li := l } n = (State.thaw n s.now .lapse s).record? n from rfl]
    cases (State.thaw n s.now .lapse s).record? n <;> rfl
  simp only [State.takeExpiries]
  rw [comm State.holdDue State.expireHold (fun _ _ => rfl) (fun _ _ => rfl),
    comm State.dwellDue State.expireDwell (fun _ _ => rfl) (fun _ _ => rfl),
    comm State.allowanceDue State.expireAllowance (fun _ _ => rfl) (fun _ _ => rfl),
    comm State.lapseDue State.lapse (fun _ _ => rfl) hlapse]

/-- Blocks after a second event: the time base advanced, the rest as the expiries of the ending second leave it. -/
theorem State.beginSecond_spec (rc : Nat) (s : State) :
    (s.beginSecond rc).tb = s.tb.second rc ∧ (s.beginSecond rc).ps = s.ps ∧
      (s.beginSecond rc).zm = s.takeExpiries.zm ∧ (s.beginSecond rc).pt = s.pt ∧
      (s.beginSecond rc).ct = s.takeExpiries.ct ∧ (s.beginSecond rc).ae = s.ae ∧ (s.beginSecond rc).hu = s.hu ∧
      (s.beginSecond rc).au.attention = s.takeExpiries.au.attention ∧ (s.beginSecond rc).au.lines = s.au.lines ∧
      (s.beginSecond rc).li = s.li ∧ (s.beginSecond rc).freeCount = s.freeCount ∧
      (s.beginSecond rc).pending = s.pending := by
  obtain ⟨-, t2, t3, t4, t5, -, -, -, t9, t10, t11, t12⟩ := s.takeExpiries_stands
  unfold State.beginSecond
  exact ⟨rfl, t2, rfl, t3, rfl, t4, t5, rfl, t9, t10, t11, t12⟩

end Sys2Proof.Machine
end

