-- ==== Sys2Proof/Laws/PerInstr.lean ====
section
/-! SUPPORT. Statements about every command as syntax, one lemma per constructor of `Instr`. -/

namespace Sys2Proof.Laws.EncodedLength

/-- A command is sent as its code, its length byte and exactly the payload that 11.4 lists for its code (R178). -/
def Statement (i : Instr) : Prop :=
  i.wellFormed = true →
    ∀ c n, i.code? = some c → payloadLength? c = some n → (encodeCommand i).length = 2 + n

/-- An event has no code, so nothing to encode. -/
theorem of_event {i : Instr} (h : i.code? = none) : Statement i := fun _ c n hc _ => by rw [h] at hc; cases hc

/-- A command whose payload has the listed length. -/
theorem of_listed {i : Instr} {c : Byte} {n : Nat} (hc : i.code? = some c) (hn : payloadLength? c = some n)
    (hp : (payloadBytes i).length = n) : Statement i := by
  intro _ c' n' hc' hn'
  obtain rfl : c = c' := Option.some.inj (hc.symm.trans hc')
  obtain rfl : n = n' := Option.some.inj (hn.symm.trans hn')
  simp only [encodeCommand, hc, List.length_cons, hp]
  omega

theorem coldStart (inp : ColdInputs) : Statement (.coldStart inp) := of_event rfl
theorem vbakLoss : Statement (.vbakLoss) := of_event rfl
theorem vbakRestore : Statement (.vbakRestore) := of_event rfl
theorem vsupLoss : Statement (.vsupLoss) := of_event rfl
theorem vsupReturn (inp : ReturnInputs) : Statement (.vsupReturn inp) := of_event rfl
theorem resetnLow : Statement (.resetnLow) := of_event rfl
theorem pinReset (lowMicros : Nat) (csnLow : Bool) : Statement (.pinReset lowMicros csnLow) := of_event rfl
theorem retryWindowEnd (edgesFound : Bool) : Statement (.retryWindowEnd edgesFound) := of_event rfl
theorem crystalStop : Statement (.crystalStop) := of_event rfl
theorem secondEvent (rcPeriods : Nat) : Statement (.secondEvent rcPeriods) := of_event rfl
theorem scan : Statement (.scan) := of_event rfl
theorem probeRisingEdge (probe : Nat) : Statement (.probeRisingEdge probe) := of_event rfl
theorem gateClose : Statement (.gateClose) := of_event rfl
theorem tick : Statement (.tick) := of_event rfl
theorem tickPassVisit : Statement (.tickPassVisit) := of_event rfl
theorem holdExpiry (zone : Nat) : Statement (.holdExpiry zone) := of_event rfl
theorem doorInputChange (compartment : Nat) (level : Bool)
    : Statement (.doorInputChange compartment level) := of_event rfl
theorem doorOpen (compartment : Nat) : Statement (.doorOpen compartment) := of_event rfl
theorem doorClose (compartment : Nat) : Statement (.doorClose compartment) := of_event rfl
theorem dwellExpiry (compartment : Nat) : Statement (.dwellExpiry compartment) := of_event rfl
theorem defrostInputChange (level : Bool) : Statement (.defrostInputChange level) := of_event rfl
theorem defrostRise : Statement (.defrostRise) := of_event rfl
theorem defrostFall : Statement (.defrostFall) := of_event rfl
theorem allowanceExpiry (compartment : Nat) : Statement (.allowanceExpiry compartment) := of_event rfl
theorem deadlineLapse (slot : Nat) : Statement (.deadlineLapse slot) := of_event rfl
theorem pulseEnd (start : PulseStart) : Statement (.pulseEnd start) := of_event rfl
theorem frameDiscarded (whole : Nat) : Statement (.frameDiscarded whole) := of_event rfl
theorem shortTransaction (bits : Nat) : Statement (.shortTransaction bits) := of_event rfl
theorem responseRead (bytes : Nat) : Statement (.responseRead bytes) := of_event rfl
theorem responseReady : Statement (.responseReady) := of_event rfl
theorem unknownCommand (code : Byte) (fr : Frame) : Statement (.unknownCommand code fr) := by
  intro hw c n hc hn
  obtain rfl : code = c := Option.some.inj hc
  simp [Instr.wellFormed, hn] at hw
theorem status (fr : Frame) : Statement (.status fr) := of_listed rfl rfl rfl
theorem attention (fr : Frame) : Statement (.attention fr) := of_listed rfl rfl rfl
theorem find (fr : Frame) (id : Word32) : Statement (.find fr id) := of_listed rfl rfl rfl
theorem view (fr : Frame) (handle : Byte) : Statement (.view fr handle) := of_listed rfl rfl rfl
theorem survey (fr : Frame) (field cond : Byte) (value : Word32) (start : Byte)
    : Statement (.survey fr field cond value start) := of_listed rfl rfl rfl
theorem zone (fr : Frame) (z : Byte) : Statement (.zone fr z) := of_listed rfl rfl rfl
theorem door (fr : Frame) (c : Byte) : Statement (.door fr c) := of_listed rfl rfl rfl
theorem probe (fr : Frame) (p : Byte) : Statement (.probe fr p) := of_listed rfl rfl rfl
theorem profile (fr : Frame) (i : Byte) : Statement (.profile fr i) := of_listed rfl rfl rfl
theorem fixTick (fr : Frame) (interval : Byte) : Statement (.fixTick fr interval) := of_listed rfl rfl rfl
theorem setProbe (fr : Frame) (p z : Byte) (zeroCount gain : Word16)
    : Statement (.setProbe fr p z zeroCount gain) := of_listed rfl rfl rfl
theorem setZone (fr : Frame) (z lag : Byte) (hold : Word16) (capacity interlock : Byte) (dwell : Word16) (raise : Byte)
    (defrostMax spacing : Word16) :
    Statement (.setZone fr z lag hold capacity interlock dwell raise defrostMax spacing) := of_listed rfl rfl rfl
theorem setDefrostMask (fr : Frame) (mask : Byte) : Statement (.setDefrostMask fr mask) := of_listed rfl rfl rfl
theorem setHandover (fr : Frame) (window : Word16) : Statement (.setHandover fr window) := of_listed rfl rfl rfl
theorem setAlert (fr : Frame) (line cond mode : Byte)
    : Statement (.setAlert fr line cond mode) := of_listed rfl rfl rfl
theorem ackAlert (fr : Frame) (line : Byte) : Statement (.ackAlert fr line) := of_listed rfl rfl rfl
theorem defineProfile (fr : Frame) (i : Byte) (upper lower : Word16) (upperBudget lowerBudget blindAllowance : Word32) :
    Statement (.defineProfile fr i upper lower upperBudget lowerBudget blindAllowance) := of_listed rfl rfl rfl
theorem clearProfile (fr : Frame) (i : Byte) : Statement (.clearProfile fr i) := of_listed rfl rfl rfl
theorem load (fr : Frame) (id : Word32) (prof compartment : Byte)
    : Statement (.load fr id prof compartment) := of_listed rfl rfl rfl
theorem shift (fr : Frame) (handle : Byte) (id : Word32) (expected dest : Byte)
    : Statement (.shift fr handle id expected dest) := of_listed rfl rfl rfl
theorem stage (fr : Frame) (handle : Byte) (id : Word32) (expected : Byte)
    : Statement (.stage fr handle id expected) := of_listed rfl rfl rfl
theorem restow (fr : Frame) (handle : Byte) (id : Word32) (compartment : Byte)
    : Statement (.restow fr handle id compartment) := of_listed rfl rfl rfl
theorem deliver (fr : Frame) (handle : Byte) (id : Word32)
    : Statement (.deliver fr handle id) := of_listed rfl rfl rfl
theorem writeOff (fr : Frame) (handle : Byte) (id : Word32)
    : Statement (.writeOff fr handle id) := of_listed rfl rfl rfl
theorem release (fr : Frame) (handle : Byte) (id : Word32)
    : Statement (.release fr handle id) := of_listed rfl rfl rfl
theorem handOff (fr : Frame) (handle : Byte) (id : Word32)
    : Statement (.handOff fr handle id) := of_listed rfl rfl rfl
theorem exportPart (fr : Frame) (handle : Byte) (id : Word32) (part : Byte)
    : Statement (.exportPart fr handle id part) := of_listed rfl rfl rfl
theorem confirm (fr : Frame) (handle : Byte) (id : Word32)
    : Statement (.confirm fr handle id) := of_listed rfl rfl rfl
theorem recallRecord (fr : Frame) (handle : Byte) (id : Word32) : Statement (.recallRecord fr handle id) := of_listed rfl rfl rfl
theorem adoptPart (fr : Frame) (part : Byte) (bytes : Vector Byte 16)
    : Statement (.adoptPart fr part bytes) := of_listed rfl rfl (by simp [payloadBytes])
theorem adoptCommit (fr : Frame) : Statement (.adoptCommit fr) := of_listed rfl rfl rfl
theorem adoptAbort (fr : Frame) : Statement (.adoptAbort fr) := of_listed rfl rfl rfl

end Sys2Proof.Laws.EncodedLength
end

