-- ==== Sys2Proof/Tests/Slice0.lean ====
section
/-! SUPPORT. Tests of the model, and for each statement with hypotheses a witness that they can be met. Expected
results come from the rules, tables and worked sequences of spec/, named at each test. -/

namespace Sys2Proof.Tests

open Sys2Proof.Machine

/-! ### Helpers -/

/-- The state after a command or event. -/
def after (i : Instr) (s : State) : State := (nextOf (exec i s)).getD s

/-- The answer of a command that is executing, and its result code. -/
def answer (i : Instr) (s : State) : Option Reply := (after i s).li.executing
def code (i : Instr) (s : State) : Option ResultCode := (answer i s).map Reply.code

/-- The payload answered, as numbers. -/
def payload (i : Instr) (s : State) : List Nat := ((answer i s).elim [] Reply.payload).map BitVec.toNat

abbrev sent := Frame.exact

def timeBase (f : TimeBase → TimeBase) (s : State) : State := { s with tb := f s.tb }
def link (f : Link → Link) (s : State) : State := { s with li := f s.li }

/-- A probe with its edge count in the open gate. -/
def counting (p n : Nat) (state : ProbeState) (window : List Int) (s : State) : State :=
  { s.modifyProbe p fun q => { q with zone := 1, state := state, window := window, edges := some n } with
    ps.gateOpen := true }

/-- A zone SENSED with the same figure everywhere. -/
def sensedAt (z : Nat) (x : Int) (s : State) : State :=
  s.modifyZone z fun k => { k with sensing := .sensed, airMax := x, airMin := x, warm := x, cold := x }

/-- An INTACT record with no figures but its custody seconds. -/
def plain (id : Word32) (custody : Custody) (seconds : Nat) : Record :=
  ⟨id, custody, 0, .intact, ⟨false, false, false, false, false⟩, 0, 0, 0, seconds, 0, 0, 0x1234⟩

/-- A part in second 640 with I = 30 and profile 0 (U 50, L 0, Bh 36000, Bl 18000, Ba 900), the table empty. -/
def live : State :=
  (timeBase (fun tb => { tb with trip := 640, interval := some 30 }) State.reset).modifyProfile 0 fun _ =>
    ⟨true, 50, 0, 36000, 18000, 900, 0⟩

/-- The part with four records: slot 0 LOADED in compartment 1, slot 1 STAGED, slot 2 HANDOVER, slot 3 CLOSED. -/
def stocked : State :=
  let s := (live.modifyProfile 0 fun p => { p with useCount := 4 }).setRecord 0 (some (plain 7040 (.loaded 1 630) 130))
  let s := (s.setRecord 1 (some (plain 310 (.staged 630) 100))).setRecord 2 (some (plain 5100 (.handover 600 900) 80))
  let s := s.setRecord 3 (some (plain 1 (.closed .delivered) 70))
  { s with ct := { s.ct with index := [3, 1, 2, 0], members := #v[[0], [], [], []], stage := [1, 2] } }

/-- The stocked part with a pass in flight and its next visit waiting. -/
def visiting : State := { stocked with ae := some ⟨640, 0⟩, pending := [.tickPassVisit] }

/-- The stocked part in BACKUP since second 640, a second event waiting. -/
def asleep : State := { after .vsupLoss stocked with pending := [.secondEvent 1048576] }

/-- The stocked part with RESETN low. -/
def held : State := timeBase (fun tb => { tb with resetLow := true }) stocked

/-! ### WellFormed refuses ill-formed terms -/

theorem test_wf_no_supply :
    (Instr.coldStart ⟨false, false, true, true, true, Vector.replicate 4 false, false, false, false⟩).wellFormed =
      false := by decide
theorem test_wf_probe : (Instr.probeRisingEdge 8).wellFormed = false := by decide
theorem test_wf_zone : ([0, 6].map fun z => (Instr.holdExpiry z).wellFormed) = [false, false] := by decide
theorem test_wf_compartment :
    ([0, 5].map fun c =>
        [(Instr.doorInputChange c true).wellFormed, (Instr.doorOpen c).wellFormed, (Instr.doorClose c).wellFormed,
          (Instr.dwellExpiry c).wellFormed, (Instr.allowanceExpiry c).wellFormed]) =
      List.replicate 2 (List.replicate 5 false) := by decide
theorem test_wf_slot : (Instr.deadlineLapse 48).wellFormed = false := by decide
theorem test_wf_line : (Instr.pulseEnd ⟨2, 0⟩).wellFormed = false := by decide
theorem test_wf_discarded : (Instr.frameDiscarded 0).wellFormed = false := by decide
theorem test_wf_short : (Instr.shortTransaction 8).wellFormed = false := by decide
theorem test_wf_read : (Instr.responseRead 0).wellFormed = false := by decide
theorem test_wf_listed_code_is_not_unknown : (Instr.unknownCommand 0x20 (sent 6)).wellFormed = false := by decide
theorem test_wf_code_zero_is_a_read : (Instr.unknownCommand 0 (sent 0)).wellFormed = false := by decide
theorem test_wf_frame :
    ([⟨0, 0, 0⟩, ⟨2, 0, 8⟩, ⟨1, 3, 0⟩] : List Frame).map (fun fr => (Instr.status fr).wellFormed) =
      [false, false, false] := by decide
theorem test_wf_accepts :
    [Instr.status (sent 0), .load (sent 6) 6699 0 1, .unknownCommand 0x7F ⟨2, 0, 0⟩, .holdExpiry 5, .pulseEnd ⟨1, 7⟩].all
      Instr.wellFormed = true := by decide

/-! ### Decoding (11.4, 11.7, R178, R186) -/

/-- 11.7: 20h, 06h, ID 0000 1A2Bh, profile 0, compartment 1 is LOAD. -/
theorem test_decode_load :
    decodeTransaction [0x20, 0x06, 0x00, 0x00, 0x1A, 0x2B, 0x00, 0x01] 0 = .load (sent 6) 0x1A2B 0 1 := by decide
/-- 11.7: the frame with length byte 5 and 8 bytes sent. -/
theorem test_decode_stage_short_length :
    decodeTransaction [0x22, 0x05, 0x02, 0x00, 0x00, 0x1A, 0x2B, 0x01] 0 = .stage ⟨8, 5, 0⟩ 2 0x1A2B 1 := by decide
/-- 11.4: code 11h, 6 bytes: probe, zone, Z, K; a gain of −120 is FF88h. -/
theorem test_decode_set_probe :
    decodeTransaction [0x11, 0x06, 0x07, 0x05, 0x17, 0x70, 0xFF, 0x88] 0 = .setProbe (sent 6) 7 5 6000 0xFF88 := by
  decide
/-- 11.4: code 05h, 7 bytes: field, condition, value, start. -/
theorem test_decode_survey :
    decodeTransaction [0x05, 0x07, 0x01, 0x01, 0x00, 0x00, 0x00, 0x04, 0x20] 0 = .survey (sent 7) 1 1 4 32 := by decide
theorem test_decode_status : decodeTransaction [0x01, 0x00] 0 = .status (sent 0) := by decide
theorem test_decode_adopt_abort : decodeTransaction [0x36, 0x00] 0 = .adoptAbort (sent 0) := by decide
theorem test_decode_read : decodeTransaction [0x00, 0x00, 0x00] 0 = .responseRead 3 := by decide
theorem test_decode_short : decodeTransaction [] 7 = .shortTransaction 7 := by decide
theorem test_decode_unlisted : decodeTransaction [0x0A, 0x00] 0 = .unknownCommand 0x0A ⟨2, 0, 0⟩ := by decide

/-! ### Arithmetic (worked tables of chapters 2, 3, 6 and 7) -/

/-- 2.4 and 2.9. -/
theorem test_conversions :
    [convertCount 5043 5000 230, convertCount 4987 5000 256, convertCount 6150 6000 (-120),
        convertCount 5760 5000 256, convertCount 12 5000 256, divRound256 383, divRound256 384, divRound256 128,
        divRound256 (-128), divRound256 (-384)] =
      [39, -13, -70, 760, -4988, 1, 2, 1, -1, -2] := by decide
/-- 2.5. -/
theorem test_probe_values :
    [probeValue? [39], probeValue? [39, 42], probeValue? [-13, -16], probeValue? [40, 95, 41],
        probeValue? [39, 41, 80, 40], probeValue? [-180, -182, -181, -181], probeValue? []] =
      [some 39, some 41, some (-14), some 41, some 41, some (-181), none] := by decide
/-- 3.5. -/
theorem test_estimate_steps :
    [stepToward 3 95 40, stepToward 3 95 46, stepToward 2 (-180) (-150), stepToward 2 (-180) (-178),
        stepToward 0 7 (-3), stepToward 11 5 5] =
      [46, 52, -157, -179, 7, 5] := by decide
/-- 7.1: one byte 00h from FFFFh. -/
theorem test_crc_zero_byte : crcBytes 0xFFFF [0x00] = 0xE1F0 := by decide
/-- 6.7: the tick that breaks a record. -/
theorem test_settle_breaks :
    let g : Readings := ⟨false, 58, 52, 0, ⟨true, 50, 0, 3000, 0, 600, 1⟩, false, none⟩
    let r := { plain 9 (.loaded 2 8970) 5400 with status := .atRisk, upperExposure := 2880, peakExcess := 6 }
    let r' := (r.settle g 9000).1
    (r'.status, r'.upperExposure, r'.peakExcess, r'.custodySeconds, (r.settle g 9000).2) =
      (.broken 5430, 3120, 8, 5430, some .recordBreak) := by decide
/-- 6.7: a granted allowance of 30 keeps the same record AT_RISK. -/
theorem test_settle_with_allowance :
    let g : Readings := ⟨false, 58, 52, 30, ⟨true, 50, 0, 3000, 0, 600, 1⟩, false, none⟩
    let r := { plain 9 (.loaded 2 8970) 5400 with status := .atRisk, upperExposure := 2880, peakExcess := 6 }
    let r' := (r.settle g 9000).1
    (r'.status, r'.upperExposure, r'.peakExcess, r'.custodySeconds, r'.fold) = (.atRisk, 2880, 6, 5430, 0x1234) := by
  decide

/-! ### Invariants: checks that decide them, and states that meet them -/

theorem slot_lt {s : State} {h : Nat} {r : Record} (hr : s.record? h = some r) : h < 48 := by
  by_contra hn
  have : s.ct.slots[h]? = none := by simp; omega
  simp [State.record?, this] at hr

/-- A property of every record, checked slot by slot. -/
theorem of_records {s : State} {p : Nat → Record → Bool}
    (hp : ((List.range 48).all fun h => (s.record? h).all (p h)) = true) {h : Nat} {r : Record}
    (hr : s.record? h = some r) : p h r = true := by
  have := List.all_eq_true.1 hp h (List.mem_range.2 (slot_lt hr))
  simpa [hr] using this

/-- A list holds exactly the slots with a property, checked slot by slot. -/
theorem holds_exactly {s : State} {l : List Nat} {p : Record → Bool}
    (hp : (l.all (· < 48) && (List.range 48).all fun h => l.contains h == (s.record? h).any p) = true) (h : Nat) :
    h ∈ l ↔ ∃ r, s.record? h = some r ∧ p r = true := by
  simp only [Bool.and_eq_true, List.all_eq_true, decide_eq_true_eq, beq_iff_eq, List.mem_range] at hp
  constructor
  · intro hm
    have := hp.2 h (hp.1 h hm)
    rw [List.contains_iff_mem.2 hm] at this
    cases hr : s.record? h with
    | none => simp [hr] at this
    | some r => exact ⟨r, rfl, by simpa [hr] using this.symm⟩
  · rintro ⟨r, hr, hpr⟩
    have := hp.2 h (slot_lt hr)
    simp only [hr, Option.any_some, hpr] at this
    exact List.contains_iff_mem.1 this

theorem indexed_of {s : State}
    (h1 : (s.ct.index.all (· < 48) && (List.range 48).all fun h => s.ct.index.contains h == (s.record? h).any fun _ => true) = true)
    (h2 : s.ct.index.Pairwise fun a b =>
      ((s.record? a).all fun ra => (s.record? b).all fun rb => decide (ra.id.toNat < rb.id.toNat)) = true) : s.indexed := by
  refine ⟨fun h => ?_, h2.imp fun {a b} hab ra rb ha hb => by simpa [ha, hb] using hab⟩
  rw [holds_exactly h1 h]
  cases s.record? h <;> simp

/-- A LOADED record of a compartment. -/
def loadedIn (c : Nat) (r : Record) : Bool :=
  match r.custody with
  | .loaded d _ => d == c
  | .staged _ => false
  | .handover _ _ => false
  | .closed _ => false

theorem loadedIn_iff {c : Nat} {r : Record} : loadedIn c r = true ↔ ∃ t, r.custody = .loaded c t := by
  cases h : r.custody <;> simp [loadedIn, h]

theorem listed_of {s : State}
    (h0 : s.tb.presentCount ≤ 4)
    (h1 : ∀ c < 5, 1 ≤ c → (s.membersOf c).Nodup ∧
      ((s.membersOf c).all (· < 48) &&
        (List.range 48).all fun h => (s.membersOf c).contains h == (s.record? h).any (loadedIn c)) = true)
    (h2 : s.ct.stage.Nodup)
    (h3 : (s.ct.stage.all (· < 48) &&
      (List.range 48).all fun h =>
        s.ct.stage.contains h == (s.record? h).any fun r => r.isStaged || r.isHandover) = true)
    (h4 : ((List.range 48).all fun h => (s.record? h).all fun r =>
      !r.isLoaded || decide (1 ≤ r.place ∧ r.place ≤ s.tb.presentCount)) = true) : s.listed := by
  refine ⟨h0, fun c hc hc4 => ⟨(h1 c (by omega) hc).1, fun h => ?_⟩, h2, fun h => ?_, fun h r c t hr hl => ?_⟩
  · rw [holds_exactly (h1 c (by omega) hc).2 h]
    constructor
    · rintro ⟨r, hr, hl⟩
      obtain ⟨t, ht⟩ := loadedIn_iff.1 hl
      exact ⟨r, t, hr, ht⟩
    · rintro ⟨r, t, hr, ht⟩
      exact ⟨r, hr, loadedIn_iff.2 ⟨t, ht⟩⟩
  · rw [holds_exactly h3 h]
    simp
  · have := of_records h4 hr
    simpa [Record.isLoaded, Record.place, Custody.place, hl] using this

theorem witness_StepKeepsTheIndex : visiting.indexed ∧ ∃ t, step visiting = .next t :=
  ⟨indexed_of (by decide) (by decide), _, rfl⟩
theorem witness_StepKeepsTheLists : visiting.listed ∧ ∃ t, step visiting = .next t :=
  ⟨listed_of (by decide) (by decide) (by decide) (by decide) (by decide), _, rfl⟩
theorem witness_StepKeepsTheCapacities : visiting.withinCapacity ∧ ∃ t, step visiting = .next t := by
  have h : ∀ c < 5, (visiting.membersOf c).length ≤ (visiting.compAt c).capacity := by decide
  exact ⟨⟨fun c _ hc => h c (by omega), by decide⟩, _, rfl⟩
theorem witness_StepKeepsTheUseCounts : visiting.useCounted ∧ ∃ t, step visiting = .next t := by
  refine ⟨⟨by decide, fun h r hr => ?_⟩, _, rfl⟩
  simpa using of_records (s := visiting) (p := fun _ r => decide (r.profile < 8)) (by decide) hr
theorem plain_lawful {r : Record} (h : r.upperExposure ≤ maxU32 ∧ r.lowerExposure ≤ maxU32 ∧ r.custodySeconds ≤ maxU32 ∧
    r.blindSeconds ≤ r.custodySeconds ∧ r.peakExcess ≤ 65535 ∧ r.handOffs ≤ 255) (hi : r.status = .intact) : r.lawful :=
  ⟨h.1, h.2.1, h.2.2.1, h.2.2.2.1, h.2.2.2.2.1, h.2.2.2.2.2, fun b hb => by rw [hi] at hb; cases hb⟩
theorem visiting_lawful : visiting.recordsLawful := by
  intro h r hr
  have := of_records (s := visiting) (p := fun _ r => decide ((r.upperExposure ≤ maxU32 ∧ r.lowerExposure ≤ maxU32 ∧
    r.custodySeconds ≤ maxU32 ∧ r.blindSeconds ≤ r.custodySeconds ∧ r.peakExcess ≤ 65535 ∧ r.handOffs ≤ 255) ∧
      r.status = .intact))
    (by decide) hr
  have := of_decide_eq_true this
  exact plain_lawful this.1 this.2
theorem visiting_measured : visiting.measured := by
  have h : ∀ z < 6, -400 ≤ (visiting.zoneAt z).airMax ∧ (visiting.zoneAt z).airMax ≤ 700 ∧
      -400 ≤ (visiting.zoneAt z).airMin ∧ (visiting.zoneAt z).airMin ≤ 700 ∧ -400 ≤ (visiting.zoneAt z).warm ∧
      (visiting.zoneAt z).warm ≤ 700 ∧ -400 ≤ (visiting.zoneAt z).cold ∧ (visiting.zoneAt z).cold ≤ 700 := by decide
  exact ⟨by decide, fun z _ hz => h z (by omega)⟩
theorem visiting_profiles : visiting.profilesLawful := by unfold State.profilesLawful; decide
theorem witness_StepKeepsRecordsLawful :
    visiting.measured ∧ visiting.profilesLawful ∧ visiting.recordsLawful ∧ ∃ t, step visiting = .next t :=
  ⟨visiting_measured, visiting_profiles, visiting_lawful, _, rfl⟩
theorem witness_StepKeepsMeasurementsInRange : visiting.measured ∧ ∃ t, step visiting = .next t :=
  ⟨visiting_measured, _, rfl⟩
theorem witness_StepKeepsTheLinesCurrent :
    let s := { visiting with au.lines := Vector.replicate 2 ⟨.newBreak, .pulse, false, false, some 4, 5⟩ }
    s.linesCurrent ∧ s.pulsesNumbered ∧ ∃ t, step s = .next t :=
  ⟨by decide, fun i n h => by fin_cases i <;> (obtain rfl : 4 = n := Option.some.inj h) <;> decide, _, rfl⟩
theorem witness_StepKeepsBackupQuiet :
    asleep.tb.power = .backup ∧ asleep.backupQuiet ∧ ∃ t, step asleep = .next t := by
  have hz : ∀ z < 6, (asleep.zoneAt z).sensing = .blind := by decide
  have hc : ∀ c < 5, (asleep.compAt c).doorOpen = false ∧ (asleep.compAt c).episode = none := by decide
  exact ⟨by decide, fun _ => ⟨by decide, by decide, by decide, by decide, by decide, fun z _ hz5 => hz z (by omega),
    fun c _ hc4 => hc c (by omega), by decide⟩, _, rfl⟩
theorem visiting_charged : visiting.chargedByNow := by
  refine ⟨fun h r t hr hc => ?_, fun p hp => ?_⟩
  · have := of_records (s := visiting) (p := fun _ r => r.chargedTo?.all fun t => decide (t ≤ visiting.now)) (by decide) hr
    simpa [hc] using this
  · obtain rfl : (⟨640, 0⟩ : Pass) = p := Option.some.inj hp
    decide
/-- The visit charges record 0 ten seconds blind. -/
theorem witness_RecordsOnlyWorsen :
    visiting.recordsLawful ∧ (∃ t, step visiting = .next t) ∧
      ((visiting.record? 0).map Record.custodySeconds, ((nextOf (step visiting)).bind (·.record? 0)).map
        fun r => (r.custodySeconds, r.blindSeconds, r.status)) = (some 130, some (140, 10, .atRisk)) :=
  ⟨visiting_lawful, ⟨_, rfl⟩, by decide⟩
theorem witness_CustodySecondsTrackTheClock :
    visiting.recordsLawful ∧ visiting.chargedByNow ∧ (∃ t, step visiting = .next t) ∧
      (visiting.record? 0).bind Record.chargedTo? = some 630 ∧
      ((nextOf (step visiting)).bind (·.record? 0)).bind Record.chargedTo? = some 640 :=
  ⟨visiting_lawful, visiting_charged, ⟨_, rfl⟩, by decide⟩
/-- Closings from STAGED and from HANDOVER in second 640 (R97, R139). -/
theorem witness_CustodySecondsTrackTheClock_closing :
    ([Instr.deliver (sent 5) 1 310, .confirm (sent 5) 2 5100].map fun i =>
        ([1, 2].map fun h => ((after i stocked).record? h).map fun r => (r.isClosed, r.custodySeconds))) =
      [[some (true, 110), some (false, 80)], [some (false, 100), some (true, 80)]] := by decide
theorem witness_DecodingInvertsEncoding :
    let i := Instr.shift (sent 7) 47 0xFFFFFFFF 1 4
    i.wellFormed = true ∧ i.code? = some 0x21 ∧ payloadLength? 0x21 = some 7 ∧ i.frame? = some (Frame.exact 7) ∧
      encodeCommand i = [0x21, 7, 47, 255, 255, 255, 255, 1, 4] := by decide
theorem witness_StepRunsTheFrontOfTheQueue : State.reset.pending = [] := rfl

/-! ### Power and reset -/

def doorsOpen : Vector Bool 4 := #v[true, false, false, true]

theorem witness_ColdStartGivesInitialValues :
    ([⟨true, false, false, false, true, doorsOpen, true, false, false⟩,
        ⟨false, true, true, false, false, doorsOpen, true, false, false⟩] : List ColdInputs).map (fun inp =>
          let t := after (.coldStart inp) stocked
          (inp.vsup || inp.vbak, t.tb.power, t.tb.presentCount, t.tb.degraded, (t.compAt 1).doorOpen,
            (t.compAt 4).doorOpen)) =
      [(true, .run, 1, false, true, false), (true, .backup, 3, true, false, false)] := by decide
theorem witness_BackupSupplyAndLossOfAllPower :
    let bare := timeBase (fun tb => { tb with vbak := false }) stocked
    [(after .vbakLoss stocked).tb.power, (after .vsupLoss bare).tb.power, (after .vbakLoss asleep).tb.power,
        (after (.secondEvent 5) (after .vbakLoss asleep)).tb.power] = [.run, .off, .off, .off] ∧
      (after .vbakLoss asleep).record? 0 = none := by decide
theorem witness_BackupSupplyAndLossOfAllPower_cold_start :
    let inp : ColdInputs :=
      { vsup := true, vbak := false, crystalFound := true, zsel1 := true, zsel0 := true, resetLow := false,
        csnLow := false, doors := Vector.replicate 4 false, defrost := false }
    let off := after .vbakLoss asleep
    off.tb.power = .off ∧ (inp.vsup = true ∨ inp.vbak = true) ∧ (after (.coldStart inp) off).tb.power = .run ∧
      after .responseReady off = off := by decide
/-- A part with an open door, an episode and an adoption part held enters BACKUP. -/
theorem witness_VsupLossEntersBackup :
    let s := { (stocked.modifyComp 1 fun c =>
      { c with doorOpen := true, opening := some ⟨600, none, false⟩, episode := some ⟨610, none⟩ }) with
      hu.parts := [Vector.replicate 16 0] }
    let t := after .vsupLoss s
    s.tb.power = .run ∧ s.tb.vbak = true ∧
      ((t.compAt 1).opening, (t.compAt 1).previousEnd, t.hu.parts) = (some ⟨600, some 40, false⟩, some 640, []) := by
  decide
theorem witness_MainReturnEntersRun :
    let s := asleep.modifyComp 4 fun c => { c with opening := some ⟨600, some 3, false⟩, dwellLimit := 10 }
    let t := after (.vsupReturn ⟨doorsOpen, true, false, false⟩) (timeBase (fun tb => { tb with trip := 700 }) s)
    s.tb.power = .backup ∧
      (t.tb.power, t.tb.outage, t.au.attention, (t.compAt 4).overrun, (t.compAt 4).dwellDeadline,
          (t.compAt 2).doorOpen) =
        (.run, 60, [.coldStart, .powerReturn, .doorOverrun], true, some 710, false) := by decide
/-- At 10 µs a pin reset; a zone with H = 60 becomes HELD, one with H = 0 BLIND (R17, R60). -/
theorem witness_PinResetKeepsTheTripRecord :
    let s := (sensedAt 1 35 (sensedAt 2 40 held)).modifyZone 2 fun z => { z with hold := 0 }
    let t := after (.pinReset 10 true) s
    s.tb.power = .run ∧ s.tb.resetLow = true ∧
      (t.tb.resetLow, t.li.waitRise, (t.zoneAt 1).sensing, (t.zoneAt 2).sensing, (t.zoneAt 3).sensing) =
        (false, true, .held 700, .blind, .blind) := by decide
theorem witness_PinResetKeepsTheTripRecord_short :
    (9 < 10) ∧ held.tb.resetLow = true ∧ (after (.pinReset 9 false) held).freeCount = 1 :=
  ⟨by decide, by decide, by unfold after; simp only [exec, execPinReset, nextOf]; rw [if_pos (by decide), if_neg (by decide)]; cases Config.shortPulseTaken held.freeCount <;> rfl⟩
theorem test_resetn_low : (after .resetnLow stocked).tb.resetLow = true := by decide

/-! ### Time base, probe gate, tick pass -/

/-- R1 at the ends of the trim range, R5 at saturation, R6 and R7 at an even multiple of I. -/
theorem witness_SecondEventAdvancesTheClock :
    stocked.tb.power ≠ .off ∧
      [786431, 786432, 1310720, 1310721].map (fun n => (after (.secondEvent n) stocked).tb.trim) =
        [1048576, 786432, 1310720, 1048576] ∧
      [649, 659, 660, 4294967294, 4294967295].map (fun n =>
          let t := after (.secondEvent 0) (timeBase (fun tb => { tb with trip := n }) stocked)
          (t.tb.trip, t.tb.scanDue, t.tb.tickDue)) =
        [(650, true, false), (660, true, true), (661, false, false), (4294967295, false, false),
          (4294967295, false, false)] := by decide
theorem witness_SecondEventAdvancesTheClock_degraded :
    (after (.secondEvent 900000) (timeBase (fun tb => { tb with degraded := true, secondOnCrystal := false }) stocked)).tb =
      { stocked.tb with
        trip := 641, degraded := true, secondOnCrystal := false, lastDegraded := some 641 } := by decide
theorem witness_CrystalStopAndRetry :
    stocked.tb.power ≠ .off ∧ stocked.tb.degraded = false ∧
      ((after .crystalStop stocked).tb.lastDegraded, (after .crystalStop stocked).au.attention) =
        (some 640, [.coldStart, .timebaseLost]) ∧
      [true, false].map (fun found =>
          let s := timeBase (fun tb => { tb with degraded := true, retryOpen := true }) stocked
          let t := after (.retryWindowEnd found) s
          (t.tb.degraded, t.tb.retryOpen, t.au.attention)) =
        [(false, false, [.coldStart]), (true, false, [.coldStart, .timebaseLost])] := by decide
theorem witness_ScanAndEdgesCount :
    let s := counting 0 0 .active [35] (timeBase (fun tb => { tb with scanDue := true }) stocked)
    s.tb.power = .run ∧ s.tb.scanDue = true ∧
      ((after .scan s).ps.gateOpen, ((after .scan s).probeAt 0).edges, ((after .scan s).probeAt 1).edges) =
        (true, some 0, none) := by decide
theorem witness_ScanAndEdgesCount_edge :
    [0, 65534, 65535].map (fun n =>
        let s := counting 7 n .filling [] stocked
        (s.ps.gateOpen, (s.probeAt 7).edges, ((after (.probeRisingEdge 7) s).probeAt 7).edges)) =
      [(true, some 0, some 1), (true, some 65534, some 65535), (true, some 65535, some 65535)] := by decide
/-- Probe 1 is OFF in the open gate; in `stocked` the gate is closed. -/
theorem witness_ScanAndEdgesCount_not_counting :
    let s := counting 7 5 .filling [] stocked
    (s.probeAt 1).edges = none ∧ (after (.probeRisingEdge 1) s).ps = s.ps ∧ stocked.ps.gateOpen = false ∧
      after (.probeRisingEdge 7) stocked = stocked := by decide
/-- R25 and R31 to R33: readings at the edges of acceptance. -/
theorem witness_GateCloseReadsTheProbes :
    let s := (counting 0 5850 .active [35, 36, 37, 38] stocked).modifyProbe 1 fun q =>
      { q with state := .faulted, rejects := 3, edges := some 5851 }
    let t := after .gateClose s
    s.tb.power = .run ∧ s.ps.gateOpen = true ∧ (∀ p, p < 8 → (s.probeAt p).window.length ≤ 4) ∧
      ((t.probeAt 0).window, (t.probeAt 0).clamped, (t.probeAt 1).lastTemp, (t.probeAt 1).state) =
        ([36, 37, 38, 700], true, 851, .faulted) := by decide
theorem witness_GateCloseReadsTheProbes_fault :
    let s := (counting 0 15 .active [35] stocked).modifyProbe 0 fun q => { q with rejects := 2 }
    let t := after .gateClose s
    ((t.probeAt 0).state, (t.probeAt 0).rejects, (t.probeAt 0).window, t.au.attention) =
      (.faulted, 3, [], [.coldStart, .probeFault]) := by decide
/-- Zone 1 gets its probe's value; zone 2, with H = 0, goes BLIND; zone 3, with H = 60, is HELD. -/
theorem witness_GateCloseMovesTheZones :
    let s := (sensedAt 3 20 (sensedAt 2 20 (counting 0 5040 .filling [40] stocked))).modifyZone 2 fun z =>
      { z with hold := 0 }
    let t := after .gateClose s
    s.tb.power = .run ∧ s.ps.gateOpen = true ∧
      [1, 2, 3, 4, 5].map (fun z => (t.zoneAt z).sensing) = [.sensed, .blind, .held 700, .blind, .blind] ∧
      t.zoneAt 1 = ⟨4, 60, .sensed, 40, 40, 40, 40⟩ := by decide
theorem witness_TickPassVisitsEverySlot :
    let s := timeBase (fun tb => { tb with tickDue := true }) stocked
    s.tb.power ≠ .off ∧ s.tb.tickDue = true ∧ (after .tick s).ae = some ⟨640, 0⟩ ∧
      [0, 1, 2, 3, 47].map (fun k => (after .tickPassVisit { stocked with ae := some ⟨640, k⟩ }).ae) =
        [some ⟨640, 1⟩, some ⟨640, 2⟩, some ⟨640, 3⟩, some ⟨640, 4⟩, none] := by decide

/-! ### Timers, doors, defrost, deadlines -/

theorem witness_TimersExpire :
    let s := ((stocked.modifyZone 5 fun z => { z with sensing := .held 640 }).modifyComp 1 fun c =>
        { c with doorOpen := true, dwellDeadline := some 640 }).modifyComp 4 fun c =>
      { c with episode := some ⟨100, some ⟨30, 640⟩⟩ }
    s.tb.power ≠ .off ∧ (s.zoneAt 5).sensing = .held s.tb.trip ∧ s.compPresent 1 = true ∧ s.compPresent 4 = true ∧
      ((after (.holdExpiry 5) s).zoneAt 5).sensing = .blind ∧ ((after (.dwellExpiry 1) s).compAt 1).dwellFlag = true ∧
      (after (.dwellExpiry 1) s).au.attention = [.coldStart, .doorDwell] ∧
      ((after (.allowanceExpiry 4) s).compAt 4).episode = some ⟨100, none⟩ ∧
      (after (.allowanceExpiry 4) s).au.attention = [.coldStart, .defrostOverrun] := by decide
theorem witness_TimersExpire_pulse :
    [0, 1].map (fun l =>
        [3, 4, 5].map fun n =>
          let s := stocked.modifyLine l fun k => { k with mode := .pulse, pulseEnd := some 4, pulses := 5 }
          (s.tb.power, decide s.linesCurrent, s.alertHigh l, (after (.pulseEnd ⟨l, n⟩) s).alertHigh l)) =
      List.replicate 2
        [(.run, true, true, true), (.run, true, true, false), (.run, true, true, true)] := by decide

/-- Start 4 of the pulse on line 0 runs, and in this second, `now`, the dwell deadline that makes the condition true
falls. -/
def pulsing (now : Nat) : State :=
  let s := (timeBase (fun tb => { tb with trip := now }) stocked).modifyComp 1 fun c =>
    { c with doorOpen := true, dwellDeadline := some now }
  { s with au.lines := Vector.replicate 2 ⟨.doorDwell, .pulse, false, false, some 4, 5⟩ }

theorem witness_TimersExpire_restart :
    let s := pulsing 640
    let t := after (.pulseEnd ⟨0, 4⟩) s
    s.tb.power = .run ∧ s.linesCurrent ∧ s.pulsesNumbered ∧ (s.level .doorDwell, s.alertHigh 0) = (false, true) ∧
      ([s, t].all fun u =>
        let u' := after (.dwellExpiry 1) u
        decide (LinesStepped u u' ∧ u'.tb.power = .run ∧ u'.level .doorDwell = true)) = true :=
  ⟨by decide, by decide, fun i n h => by fin_cases i <;> (obtain rfl : 4 = n := Option.some.inj h) <;> decide,
    by decide, by decide⟩
/-- R173: a pulse's end and a false-to-true change at one instant leave the line high, awaiting the end of the new start,
in either order, with a second event between the two and in the last second of the clock too; then that end drops it. -/
theorem test_pulse_restart_and_old_end :
    ([640, 4294967295].map fun now =>
        [[.dwellExpiry 1, .pulseEnd ⟨0, 4⟩], [.pulseEnd ⟨0, 4⟩, .dwellExpiry 1],
            [.dwellExpiry 1, .secondEvent 0, .pulseEnd ⟨0, 4⟩]].map fun (order : List Instr) =>
          let t := order.foldl (fun s i => after i s) (pulsing now)
          (t.alertHigh 0, (t.au.lines[0]?).map Line.pulseEnd, (after (.pulseEnd ⟨0, 5⟩) t).alertHigh 0)) =
      List.replicate 2 (List.replicate 3 (true, some (some 5), false)) := by decide +kernel
/-- R154: a STATUS in a new second shows the dwell expiry of that second with the new clock, and the row then does
nothing. -/
theorem test_status_shows_expiries :
    let s := stocked.modifyComp 1 fun c => { c with doorOpen := true, dwellDeadline := some 641 }
    let t := after (.secondEvent 1048576) s
    let u := after (.status (sent 0)) t
    (payload (.status (sent 0)) s).drop 20 = [0, 1] ∧ t.au.attention = [.coldStart] ∧
      ((payload (.status (sent 0)) t).take 7).drop 3 = [0, 0, 2, 129] ∧
      (payload (.status (sent 0)) t).drop 20 = [0, 129] ∧ (u.compAt 1).dwellFlag = true ∧
      (after (.dwellExpiry 1) u).zm = u.zm := by decide +kernel
/-- R5, R49: an expiry that has not been taken when its second ends is taken first. -/
theorem test_second_ends_after_its_expiries :
    let s := stocked.modifyComp 1 fun c => { c with doorOpen := true, dwellDeadline := some 640 }
    ((after (.secondEvent 1048576) s).tb.trip, (after (.secondEvent 1048576) s).au.attention) =
      (641, [.coldStart, .doorDwell]) := by decide +kernel
/-- A dwell expiry before its second is not taken (R49). -/
theorem test_dwell_early :
    let s := stocked.modifyComp 1 fun c => { c with doorOpen := true, dwellDeadline := some 641 }
    after (.dwellExpiry 1) s = s := by decide
theorem witness_DoorsOpenAndClose :
    let s0 := after (.doorInputChange 4 true) (stocked.modifyComp 4 fun c => { c with dwellLimit := 120, openings := 65535 })
    let s1 := after (.doorOpen 4) s0
    let s2 := after (.doorInputChange 4 false) (timeBase (fun tb => { tb with trip := 800 }) s1)
    stocked.compPresent 4 = true ∧ s0.tb.power = .run ∧
      ((s0.compAt 4).debouncing, (s0.compAt 4).doorLevel, (s0.compAt 4).doorOpen) = (true, true, false) ∧
      ((s1.compAt 4).opening, (s1.compAt 4).dwellDeadline, (s1.compAt 4).openings) =
        (some ⟨640, none, false⟩, some 760, 65535) ∧
      ((s2.compAt 4).debouncing, (s2.compAt 4).doorLevel, (s2.compAt 4).doorOpen) = (true, false, true) ∧
      ((after (.doorClose 4) s2).compAt 4).opening = some ⟨640, some 160, false⟩ := by decide
/-- Compartment 1 is granted at exactly Sp, compartment 4 refused one second short of it, compartment 2 is not in the
mask (R54). -/
theorem witness_DefrostRisesAndFalls :
    let s := ((after (.defrostInputChange true) stocked).modifyComp 1 fun c =>
        { c with inMask := true, spacing := 100, previousEnd := some 540 }).modifyComp 4 fun c =>
      { c with inMask := true, spacing := 100, previousEnd := some 541 }
    let t := after .defrostRise s
    (s.tb.power, s.zm.defrostDebouncing, s.zm.defrostLevel, s.zm.defrostActive) = (.run, true, true, false) ∧
      [1, 2, 4].map (fun c => (t.compAt c).episode) = [some ⟨640, some ⟨30, 2440⟩⟩, none, some ⟨640, none⟩] ∧
      t.au.attention = [.coldStart, .defrostOverrun] := by decide
theorem witness_DefrostRisesAndFalls_fall :
    let s := { (stocked.modifyComp 1 fun c => { c with episode := some ⟨600, none⟩ }) with
      zm.defrostLevel := false, zm.defrostDebouncing := true, zm.defrostActive := true }
    ((after .defrostFall s).compAt 1).previousEnd = some 640 ∧ ((after .defrostFall s).compAt 1).episode = none := by
  decide
/-- Frozen at 600, deadline 900 (R140, R142). -/
theorem witness_DeadlineLapseReturnsToTheStage :
    let s := timeBase (fun tb => { tb with trip := 900 }) stocked
    let t := after (.deadlineLapse 2) s
    s.tb.power ≠ .off ∧ ((s.record? 2).map Record.custody) = some (.handover 600 900) ∧ 600 < 900 ∧
      ((t.record? 2).map fun r => (r.custody, r.blindSeconds, r.custodySeconds, r.marks.lapsed, r.status)) =
        some (.staged 900, 300, 380, true, .atRisk) ∧
      t.au.attention = [.coldStart, .handoverLapsed] ∧ t.ct.stage = [1, 2] := by decide

/-! ### The link -/

theorem witness_InertAndBusyLinkTakeNoCommand :
    (asleep.tb.power ≠ .run ∧ held.tb.resetLow = true) ∧
      (after (.status (sent 0)) asleep = asleep ∧ after (.responseRead 3) held = held) ∧
      (let s := link (fun l => { l with waitRise := true }) stocked
       [Instr.status (sent 0), .frameDiscarded 2, .shortTransaction 7, .responseRead 1].map (fun i =>
          ((after i s).li.waitRise, (after i s).li.executing, (after i s).freeCount)) =
        List.replicate 4 (false, none, stocked.freeCount + 1)) ∧
      (after (.shortTransaction 7) (after (.responseRead 2) stocked)).li.sdo = some [] ∧
      (after .vsupLoss (after (.responseRead 2) stocked)).li.sdo = none := by decide
/-- 11.7: the frame that ends at 40 µs, during the LOAD's execution. -/
theorem witness_InertAndBusyLinkTakeNoCommand_busy :
    let s := after (.load (sent 6) 6699 0 1) stocked
    s.tb.power = .run ∧ s.tb.resetLow = false ∧ s.li.waitRise = false ∧ s.li.executing.isSome = true ∧
      (after (.frameDiscarded 8) s).li.overrun = true ∧ (after (.stage (sent 6) 1 310 1) s).li.overrun = true ∧
      (after (.stage (sent 6) 1 310 1) s).membersOf 1 = [0, 4] := by decide
/-- The eight conditions of R171 with the frozen record and a member in a BLIND zone, then with each other one made true;
the three modes of R173. -/
theorem witness_ConditionsReadTheStateAndPinsFollow :
    let levels := fun s : State =>
      [Condition.newBreak, .atRiskPresent, .blindZone, .doorDwell, .timebaseDegraded, .probeFault, .handoverPending,
        .tableNearFull].map s.level
    let dark := (timeBase (fun tb => { tb with degraded := true }) (stocked.raise .recordBreak)).modifyComp 4 fun c =>
      { c with dwellFlag := true }
    levels stocked = [false, false, true, false, false, false, true, false] ∧
      levels (counting 0 0 .faulted [] dark) = [true, false, true, true, true, true, true, false] ∧
      [(Mode.latch, true, none), (.latch, false, some 641), (.pulse, false, some 641), (.pulse, true, none)].map (fun x =>
          let s := stocked.modifyLine 1 fun l => { l with mode := x.1, latch := x.2.1, pulseEnd := x.2.2 }
          s.alertHigh 1) = [true, false, true, false] := by decide
/-- 11.7: PENDING, then the LOAD's response with the overrun bit and handle 4, then its first two bytes alone. -/
theorem witness_ResponsesAreFormedAndRead :
    let s0 := { stocked with au.attention := [] }
    let s1 := after (.frameDiscarded 8) (after (.load (sent 6) 6699 0 1) s0)
    let s2 := after .responseReady s1
    let read := fun n s => ((after (.responseRead n) s).li.sdo.getD []).map BitVec.toNat
    (s2.tb.power = .run ∧ s2.tb.resetLow = false ∧ s2.li.waitRise = false) ∧
      [read 4 s0, read 4 s1, read 6 s2, read 3 s2, read 1 s2] =
        [[255, 2, 0, 0], [255, 1, 1, 0], [255, 0, 1, 1, 4, 0], [255, 0, 1], [255]] := by decide
theorem witness_ResponsesAreFormedAndRead_backup :
    let s := after .vsupLoss (after (.status (sent 0)) stocked)
    s.tb.power = .backup ∧ s.li.executing.isSome = true ∧ (after .responseReady s).li.executing = none ∧
      (after .responseReady s).li.response = none := by decide +kernel
/-- The checks of R178 in their order. -/
theorem witness_FrameChecksInOrder :
    stocked.ready ∧
      ([⟨8, 5, 0⟩, ⟨43, 41, 0⟩, ⟨2, 0, 1⟩, ⟨1, 0, 0⟩, ⟨3, 1, 0⟩, ⟨2, 0, 0⟩] : List Frame).map
          (fun fr => code (.status fr) stocked) =
        [some .framing, some .framing, some .framing, some .framing, some .framing, some .ok] ∧
      ([⟨43, 41, 0⟩, ⟨42, 40, 0⟩] : List Frame).map (fun fr => code (.unknownCommand 0x0A fr) stocked) =
        [some .framing, some .unknownCommand] := by decide

/-! ### Queries -/

theorem witness_StatusAndAttentionReport :
    stocked.ready ∧
      payload (.status (sent 0)) stocked =
        [0xC4, 0x8A, 1, 0, 0, 2, 128, 30, 0, 255, 255, 255, 255, 0, 0, 0, 0, 4, 44, 1, 0, 1] ∧
      payload (.attention (sent 0)) (stocked.raise .defrostOverrun) = [2, 1] ∧
      (after (.attention (sent 0)) stocked).au.attention = [] := by decide +kernel
theorem stocked_indexed : stocked.indexed := indexed_of (by decide) (by decide)
theorem witness_FindAndViewReachTheRecord :
    (stocked.ready ∧ stocked.indexed) ∧
      [7040, 310, 5100, 1, 2].map (fun id => (code (.find (sent 4) id) stocked, payload (.find (sent 4) id) stocked)) =
        [(some .ok, [0]), (some .ok, [1]), (some .ok, [2]), (some .ok, [3]), (some .notFound, [])] ∧
      [0, 47, 48].map (fun h => code (.view (sent 1) h) stocked) = [some .ok, some .staleHandle, some .range] ∧
      payload (.view (sent 1) 3) stocked =
        [3, 0x14, 6, 0, 0, 0, 0, 0, 0, 1, 0, 0, 0, 0, 0, 0, 0, 0, 0, 0, 0, 0, 0, 0, 0, 70, 255, 255, 255, 255, 0, 0,
          0x12, 0x34] :=
  ⟨⟨by decide, stocked_indexed⟩, by decide⟩
/-- The ends of R158's ranges; state NE 4 over the table; a page of 32 of a full table ends at slot 31. -/
theorem witness_SurveyPagesTheTable :
    stocked.ready ∧
      [code (.survey (sent 7) 9 0 0 0) stocked, code (.survey (sent 7) 8 4 0 0) stocked,
          code (.survey (sent 7) 8 3 0 48) stocked] = [some .range, some .range, some .range] ∧
      [payload (.survey (sent 7) 1 1 4 0) stocked, payload (.survey (sent 7) 0 0 5 2) stocked,
          payload (.survey (sent 7) 7 2 100 0) stocked, payload (.survey (sent 7) 8 3 70000 47) stocked] =
        [[3, 255, 0, 1, 2], [1, 255, 2], [2, 255, 0, 1], [0, 255]] := by decide
theorem witness_SurveyPagesTheTable_full :
    let s := { stocked with ct.slots := Vector.replicate 48 (some (plain 1 (.closed .delivered) 70)) }
    s.ready ∧ (payload (.survey (sent 7) 2 0 0 0) s).take 2 = [32, 32] ∧
      (payload (.survey (sent 7) 2 0 0 16) s).take 3 = [32, 255, 16] ∧
      (payload (.survey (sent 7) 2 0 0 32) s).take 3 = [16, 255, 32] := by decide
theorem witness_ZonesProbesProfilesAndDoorsAreReported :
    let s := (sensedAt 5 (-3) stocked).modifyComp 4 fun c => { c with doorOpen := true, opening := some ⟨600, none, false⟩ }
    s.ready ∧
      [0, 1, 5, 6].map (fun z => code (.zone (sent 1) z) s) = [some .range, some .ok, some .ok, some .range] ∧
      payload (.zone (sent 1) 5) s = [5, 0, 255, 253, 255, 253, 255, 253, 255, 253, 0, 2, 1, 2] ∧
      [0, 4, 5].map (fun c => code (.door (sent 1) c) s) = [some .range, some .ok, some .range] ∧
      payload (.door (sent 1) 4) s = [4, 9, 0, 0, 0, 0, 2, 88, 255, 255, 255, 255] ∧
      ((after (.door (sent 1) 4) s).compAt 4).opening = some ⟨600, none, true⟩ := by decide
theorem witness_ZonesProbesProfilesAndDoorsAreReported_probe :
    let s := counting 7 3 .filling [-13, 39] stocked
    [7, 8].map (fun p => code (.probe (sent 1) p) s) = [some .ok, some .range] ∧
      (s.probeAt 7).window.length ≤ 4 ∧
      payload (.probe (sent 1) 7) s =
        [7, 1, 1, 0, 0, 0, 0, 0, 0, 0, 0, 2, 0, 13, 255, 243, 0, 39, 128, 0, 128, 0] ∧
      [7, 8].map (fun i => code (.profile (sent 1) i) s) = [some .ok, some .range] ∧
      payload (.profile (sent 1) 0) s = [0, 1, 4, 0, 50, 0, 0, 0, 0, 140, 160, 0, 0, 70, 80, 0, 0, 3, 132] := by decide

/-! ### Settings -/

theorem witness_TickIntervalAndWindowAreSet :
    let fresh := timeBase (fun tb => { tb with interval := none }) stocked
    (fresh.ready ∧ fresh.tb.interval = none ∧ stocked.ready ∧ stocked.tb.interval ≠ none) ∧
      [9, 10, 15, 20, 30, 60, 61].map (fun v => code (.fixTick (sent 1) v) fresh) =
        [some .range, some .ok, some .ok, some .ok, some .ok, some .ok, some .range] ∧
      [9, 30].map (fun v => code (.fixTick (sent 1) v) stocked) = [some .alreadyFixed, some .alreadyFixed] ∧
      [29, 30, 3600, 3601].map (fun w => code (.setHandover (sent 2) w) stocked) =
        [some .range, some .ok, some .ok, some .range] := by decide
/-- Two compartments present: zone 2 can be named, zone 3 not, zone 5 always. A gain of 4095 is 0FFFh, −4095 F001h,
4096 1000h, −4096 F000h. -/
theorem witness_SetProbeRestartsTheProbe :
    let s := timeBase (fun tb => { tb with presentCount := 2 }) (counting 7 9 .active [1, 2] stocked)
    let c := fun (p z : Byte) (k : Word16) => code (.setProbe (sent 6) p z 5000 k) s
    s.ready ∧ [c 7 5 0x0FFF, c 0 0 0xF001, c 7 2 1] = [some .ok, some .ok, some .ok] ∧
      [c 8 5 1, c 7 3 1, c 7 6 1, c 7 5 0, c 7 5 0x1000, c 7 5 0xF000] = List.replicate 6 (some .range) ∧
      (after (.setProbe (sent 6) 7 2 6000 0xFF88) s).probeAt 7 = ⟨2, 6000, -120, .filling, 0, [], 0, 0, false, none⟩ := by
  decide
theorem witness_SetZoneStoresTheSettings :
    let c := fun (z lag : Byte) (h : Word16) (cap il : Byte) (d : Word16) (a : Byte) (m sp : Word16) =>
      code (.setZone (sent 13) z lag h cap il d a m sp) stocked
    stocked.ready ∧
      [c 1 11 600 24 1 3600 100 3600 14400, c 4 0 0 1 0 0 0 60 0, c 5 11 600 0 7 9999 255 0 65535] =
        [some .ok, some .ok, some .ok] ∧
      [c 0 4 60 12 0 0 30 1800 3600, c 6 4 60 12 0 0 30 1800 3600, c 1 12 60 12 0 0 30 1800 3600,
          c 1 4 601 12 0 0 30 1800 3600, c 1 4 60 0 0 0 30 1800 3600, c 1 4 60 25 0 0 30 1800 3600,
          c 1 4 60 12 2 0 30 1800 3600, c 1 4 60 12 0 3601 30 1800 3600, c 1 4 60 12 0 0 101 1800 3600,
          c 1 4 60 12 0 0 30 59 3600, c 1 4 60 12 0 0 30 3601 3600, c 1 4 60 12 0 0 30 1800 14401] =
        List.replicate 12 (some .range) := by decide
theorem witness_DefrostMaskIsSet :
    let s := timeBase (fun tb => { tb with presentCount := 3 }) (stocked.modifyComp 1 fun c =>
      { c with inMask := true, episode := some ⟨600, none⟩ })
    let t := after (.setDefrostMask (sent 1) 0x06) s
    s.ready ∧ [0x07, 0x08, 0x10, 0x80].map (fun m => code (.setDefrostMask (sent 1) m) s) =
        [some .ok, some .range, some .range, some .range] ∧
      [1, 2, 3, 4].map (fun c => ((t.compAt c).inMask, (t.compAt c).previousEnd)) =
        [(false, some 640), (true, none), (true, none), (false, none)] := by decide
/-- Condition 7 (TABLE_NEAR_FULL), mode LATCH on line 1; condition 6 (HANDOVER_PENDING) is true here. -/
theorem witness_SetAlertSetsTheLineAfresh :
    let c := fun (l cd m : Byte) => code (.setAlert (sent 3) l cd m) stocked
    (stocked.ready ∧ stocked.linesCurrent) ∧ [c 0 0 0, c 1 7 2] = [some .ok, some .ok] ∧
      [c 2 0 0, c 0 8 0, c 0 0 3] = [some .range, some .range, some .range] ∧
      (after (.setAlert (sent 3) 0 6 0) stocked).alertHigh 0 = true ∧
      (after (.setAlert (sent 3) 1 6 1) stocked).alertHigh 1 = false := by decide
theorem witness_AckAlertClearsTheLatch :
    let s := stocked.modifyLine 1 fun l => { l with mode := .latch, latch := true }
    (s.ready ∧ s.linesCurrent) ∧ [1, 2].map (fun l => code (.ackAlert (sent 1) l) s) = [some .ok, some .range] ∧
      s.alertHigh 1 = true ∧ (after (.ackAlert (sent 1) 1) s).alertHigh 1 = false := by decide
/-- The ends of R63's limits: +700 is 02BCh, −400 is FE70h. -/
theorem witness_ProfilesAreDefinedAndCleared :
    let c := fun (i : Byte) (u l : Word16) => code (.defineProfile (sent 17) i u l 1 2 3) stocked
    stocked.ready ∧ [c 7 0x02BC 0xFE70, c 1 1 0] = [some .ok, some .ok] ∧
      [c 8 50 0, c 1 0x02BD 0, c 1 0 0xFE6F, c 1 0 0] = List.replicate 4 (some .range) ∧
      [c 0 50 0, c 0 50 50] = [some .inUse, some .range] ∧
      [0, 1, 7, 8].map (fun i => code (.clearProfile (sent 1) i) stocked) =
        [some .inUse, some .ok, some .ok, some .range] := by decide

/-! ### Custody -/

/-- A compartment with its interlock on and its door closed. -/
def locked (c : Nat) (s : State) : State := s.modifyComp c fun k => { k with interlock := true }

/-- LOAD: each check of R88 as the first that fails. -/
theorem witness_CustodyRefusalsInOrder :
    let full := stocked.modifyComp 1 fun c => { c with capacity := 1 }
    stocked.ready ∧
      [code (.load (sent 6) 9 8 1) (timeBase (fun tb => { tb with interval := none }) stocked),
          code (.load (sent 6) 9 8 1) stocked, code (.load (sent 6) 9 7 5) stocked, code (.load (sent 6) 9 7 1) stocked,
          code (.load (sent 6) 310 0 1) full, code (.load (sent 6) 9 0 1) (locked 1 full),
          code (.load (sent 6) 9 0 1) (locked 1 stocked), code (.load (sent 6) 9 0 4) stocked] =
        [some .notReady, some .range, some .range, some .noProfile, some .duplicate, some .zoneFull,
          some .doorClosed, some .ok] := by decide
/-- SHIFT, STAGE and RESTOW: each check of R91, R93 and R95 as the first that fails. -/
theorem witness_CustodyRefusalsInOrder_moves :
    let full := stocked.modifyComp 2 fun c => { c with capacity := 0 }
    let crowded := { stocked with ct.stage := [1, 2, 4, 5, 6, 7, 8, 9] }
    [code (.shift (sent 7) 48 7040 1 2) stocked, code (.shift (sent 7) 0 7041 1 2) stocked,
        code (.shift (sent 7) 1 310 1 2) stocked, code (.shift (sent 7) 0 7040 2 1) stocked,
        code (.shift (sent 7) 0 7040 1 2) (locked 1 full), code (.shift (sent 7) 0 7040 1 2) (locked 2 full),
        code (.shift (sent 7) 0 7040 1 2) full, code (.shift (sent 7) 0 7040 1 1) stocked] =
      [some .range, some .staleHandle, some .wrongState, some .mismatch, some .doorClosed, some .doorClosed,
        some .zoneFull, some .range] ∧
    [code (.stage (sent 6) 0 7040 0) stocked, code (.stage (sent 6) 47 7040 1) stocked,
        code (.stage (sent 6) 2 5100 1) stocked, code (.stage (sent 6) 0 7040 2) crowded,
        code (.stage (sent 6) 0 7040 1) (locked 1 crowded), code (.stage (sent 6) 0 7040 1) (locked 1 stocked)] =
      [some .range, some .staleHandle, some .wrongState, some .mismatch, some .zoneFull, some .doorClosed] ∧
    [code (.restow (sent 6) 1 310 5) stocked, code (.restow (sent 6) 1 311 2) stocked,
        code (.restow (sent 6) 2 5100 2) stocked, code (.restow (sent 6) 1 310 2) (locked 2 full),
        code (.restow (sent 6) 1 310 2) (locked 2 stocked)] =
      [some .range, some .staleHandle, some .wrongState, some .zoneFull, some .doorClosed] := by decide
theorem test_load_table_full :
    code (.load (sent 6) 9 0 1)
        { stocked with ct.slots := Vector.replicate 48 (some (plain 1 (.closed .delivered) 70)) } =
      some .tableFull := by decide +kernel
theorem stocked_without {id : Word32}
    (h : ((List.range 48).all fun k => (stocked.record? k).all fun r => r.id != id) = true) :
    ∀ k r, stocked.record? k = some r → r.id ≠ id :=
  fun _ _ hr => by simpa using of_records (s := stocked) (p := fun _ r => r.id != id) h hr
/-- ID 400 goes between 310 and 5100; the lowest FREE slot is 4. -/
theorem witness_LoadMakesTheRecord :
    (stocked.ready ∧ stocked.indexed ∧ stocked.tb.interval ≠ none ∧ stocked.compPresent 4 = true ∧
        (stocked.profileAt 0).defined = true ∧ (∀ k r, stocked.record? k = some r → r.id ≠ 400) ∧
        stocked.record? 4 = none ∧ (∀ k, k < 4 → stocked.record? k ≠ none) ∧
        (stocked.membersOf 4).length < (stocked.compAt 4).capacity ∧ (stocked.compAt 4).interlock = false) ∧
      payload (.load (sent 6) 400 0 4) stocked = [4] ∧
      (after (.load (sent 6) 400 0 4) stocked).ct.index = [3, 1, 4, 2, 0] :=
  ⟨⟨by decide, stocked_indexed, by decide, by decide, by decide, stocked_without (by decide), by decide, by decide,
    by decide, by decide⟩, by decide⟩
/-- Ten seconds since the last charge, blind in compartment 1 and on the stage. -/
theorem witness_MovesSettleFoldAndMove :
    let seen := fun (i : Instr) (h : Nat) =>
      ((after i stocked).record? h).map fun r => (r.custody, r.custodySeconds, r.blindSeconds)
    stocked.ready ∧
      ((stocked.record? 0).map Record.custody, (stocked.record? 1).map Record.custody) =
        (some (.loaded 1 630), some (.staged 630)) ∧
      (seen (.shift (sent 7) 0 7040 1 4) 0, seen (.stage (sent 6) 0 7040 1) 0, seen (.restow (sent 6) 1 310 1) 1) =
        (some (.loaded 4 640, 140, 10), some (.staged 640, 140, 10), some (.loaded 1 640, 110, 10)) ∧
      (after (.stage (sent 6) 0 7040 1) stocked).ct.stage = [1, 2, 0] ∧
      (after (.restow (sent 6) 1 310 1) stocked).membersOf 1 = [0, 1] := by decide
/-- The step block SHIFT, 1 to 4, AT_RISK, custody seconds 140 (R127). -/
theorem test_shift_folds :
    ((after (.shift (sent 7) 0 7040 1 4) stocked).record? 0).map Record.fold =
      some (crcBytes 0x1234 [2, 1, 4, 1, 0, 0, 0, 140]) := by decide +kernel
theorem witness_ClosingSettlesAndProves :
    stocked.ready ∧
      [(48, 310), (1, 311), (0, 7040), (2, 5100), (1, 310)].map (fun (h, id) => code (.deliver (sent 5) h id) stocked) =
        [some .range, some .staleHandle, some .wrongState, some .wrongState, some .ok] ∧
      [(48, 310), (47, 310), (2, 5100), (0, 7040), (1, 310)].map (fun (h, id) => code (.writeOff (sent 5) h id) stocked) =
        [some .range, some .staleHandle, some .wrongState, some .ok, some .ok] ∧
      (payload (.writeOff (sent 5) 0 7040) stocked).take 5 = [0, 0x34, 6, 0, 1] ∧
      (after (.writeOff (sent 5) 0 7040) stocked).membersOf 1 = [] := by decide
theorem witness_ReleaseFreesTheSlot :
    stocked.ready ∧
      [(48, 1), (3, 2), (47, 1), (1, 310), (3, 1)].map (fun (h, id) => code (.release (sent 5) h id) stocked) =
        [some .range, some .staleHandle, some .staleHandle, some .wrongState, some .ok] ∧
      ((stocked.record? 3).map fun r => (r.isClosed, r.profile)) = some (true, 0) ∧
      (after (.release (sent 5) 3 1) stocked).ct.index = [1, 2, 0] ∧
      ((after (.release (sent 5) 3 1) stocked).profileAt 0).useCount = 3 := by decide

/-! ### Hand-off and adoption -/

theorem witness_HandOffFreezesTheRecord :
    let t := after (.handOff (sent 5) 1 310) stocked
    stocked.ready ∧
      [(48, 310), (1, 1), (2, 5100), (1, 310)].map (fun (h, id) => code (.handOff (sent 5) h id) stocked) =
        [some .range, some .staleHandle, some .wrongState, some .ok] ∧
      ((t.record? 1).map fun r => (r.custody, r.handOffs, r.custodySeconds)) = some (.handover 640 940, 1, 110) ∧
      t.ct.stage = [1, 2] := by decide
theorem witness_ExportReturnsThePartsOfTheImage :
    stocked.ready ∧
      [(48, 5100, 0), (2, 5100, 3), (2, 1, 2), (1, 310, 2), (2, 5100, 2)].map (fun (h, id, k) =>
          code (.exportPart (sent 6) h id k) stocked) =
        [some .range, some .range, some .staleHandle, some .wrongState, some .ok] ∧
      payload (.exportPart (sent 6) 2 5100 0) stocked = [0, 0, 0x13, 0xEC, 0, 50, 0, 0, 0, 0, 0x8C, 0xA0, 0, 0, 0x46, 0x50] ∧
      (payload (.exportPart (sent 6) 2 5100 2) stocked).take 14 =
        [0, 0, 0, 80, 255, 255, 255, 255, 0, 0, 0, 0, 0x12, 0x34] := by decide
/-- A lapsed record answers LATE to CONFIRM (R139); RECALL charges 40 s blind (R140, R141). -/
theorem witness_ConfirmClosesAndRecallReturns :
    let lapsed := after (.deadlineLapse 2) (timeBase (fun tb => { tb with trip := 900 }) stocked)
    stocked.ready ∧ ((stocked.record? 2).map Record.custody) = some (.handover 600 900) ∧
      [code (.confirm (sent 5) 48 5100) stocked, code (.confirm (sent 5) 2 1) stocked,
          code (.confirm (sent 5) 2 5100) lapsed, code (.confirm (sent 5) 1 310) stocked,
          code (.confirm (sent 5) 2 5100) stocked] =
        [some .range, some .staleHandle, some .late, some .wrongState, some .ok] ∧
      [code (.recallRecord (sent 5) 48 5100) stocked, code (.recallRecord (sent 5) 2 1) stocked,
          code (.recallRecord (sent 5) 2 5100) lapsed, code (.recallRecord (sent 5) 2 5100) stocked] =
        [some .range, some .staleHandle, some .wrongState, some .ok] ∧
      (((after (.recallRecord (sent 5) 2 5100) stocked).record? 2).map fun r => (r.custody, r.blindSeconds, r.custodySeconds)) =
        some (.staged 640, 40, 120) := by decide
theorem witness_AdoptPartGathersInSequence :
    let z : Vector Byte 16 := Vector.replicate 16 7
    let c := fun (k : Byte) (n : Nat) => code (.adoptPart (sent 17) k z) { stocked with hu.parts := List.replicate n z }
    stocked.ready ∧
      [c 3 3, c 1 0, c 2 1, c 1 2, c 2 3] = [some .range, some .sequence, some .sequence, some .sequence, some .sequence] ∧
      [c 0 0, c 0 3, c 1 1, c 2 2] = List.replicate 4 (some .ok) := by decide
theorem witness_AdoptAbortClearsTheBuffer :
    let s := { stocked with hu.parts := [Vector.replicate 16 7] }
    s.ready ∧ code (.adoptAbort (sent 0)) s = some .ok ∧ (after (.adoptAbort (sent 0)) s).hu = ⟨300, []⟩ := by decide

/-- An image of ID 77 with profile 0's budgets and one hand-off, of 1500 custody seconds, in three parts. -/
def imagePartsOf (upper lower : Int) (blind status firstBreak : Nat) : List (Vector Byte 16) :=
  let body : List Byte :=
    bytes32 77 ++ int16 upper ++ int16 lower ++ nat32 36000 ++ nat32 18000 ++ nat32 900 ++ nat32 0 ++ nat32 0 ++
      nat32 blind ++ nat32 1500 ++ nat32 firstBreak ++ [byte status, 1] ++ nat16 0 ++ bytes16 0x55AA
  let image := body ++ bytes16 (imageCheck body)
  [0, 16, 32].map fun k => Vector.ofFn fun i => byteAt image (k + i)
def imageParts : Nat → Nat → List (Vector Byte 16) := imagePartsOf 50 0 1000
def buffered (s : State) : State := { s with hu.parts := imageParts 2 4294967295 }

/-- R148 at the edges of its ranges: a consistent image passes to NO_PROFILE or OK, another is BAD_IMAGE. -/
theorem witness_AdoptCommitRefusalsInOrder_consistency :
    let out := fun u l blind status first =>
      code (.adoptCommit (sent 0)) { stocked with hu.parts := imagePartsOf u l blind status first }
    [out 700 (-400) 1500 2 4294967295, out (-399) (-400) 0 0 4294967295, out 50 0 0 3 1500] =
        [some .noProfile, some .noProfile, some .ok] ∧
      [out 701 0 0 0 4294967295, out 0 (-401) 0 0 4294967295, out 5 5 0 0 4294967295, out 50 0 1501 0 4294967295,
          out 50 0 0 0 0, out 50 0 0 3 1501] = List.replicate 6 (some .badImage) := by decide +kernel
/-- Each check of R147 as the first that fails, and the buffer after it. -/
theorem witness_AdoptCommitRefusalsInOrder :
    let i := Instr.adoptCommit (sent 0)
    let out := fun s => (code i s, (after i s).hu.parts.length)
    stocked.ready ∧
      [out (timeBase (fun tb => { tb with interval := none }) (buffered stocked)), out stocked,
          out { stocked with hu.parts := List.replicate 3 (Vector.replicate 16 7) },
          out { stocked with hu.parts := imageParts 3 1501 }, out { stocked with hu.parts := imageParts 2 1500 },
          out ((buffered stocked).setRecord 3 (some (plain 77 (.closed .delivered) 70))),
          out ((buffered stocked).modifyProfile 0 fun p => { p with upper := 51 }),
          out { buffered stocked with ct.stage := [1, 2, 4, 5, 6, 7, 8, 9] }] =
        [(some .notReady, 3), (some .sequence, 0), (some .badCheck, 0), (some .badImage, 0), (some .badImage, 0),
          (some .duplicate, 3), (some .noProfile, 3), (some .zoneFull, 3)] := by decide +kernel
theorem test_adopt_table_full :
    code (.adoptCommit (sent 0))
        { buffered stocked with ct.slots := Vector.replicate 48 (some (plain 1 (.closed .delivered) 70)) } =
      some .tableFull := by decide +kernel
theorem witness_AdoptCommitMakesTheRecord :
    let s := buffered stocked
    let b := s.hu.parts.flatMap Vector.toList
    let t := after (.adoptCommit (sent 0)) s
    (s.ready ∧ s.indexed ∧ s.tb.interval ≠ none ∧ s.hu.parts.length = 3 ∧
        crcBytes 0xFFFF (b.take 46) = word16At b 46 ∧
        (-400 ≤ (word16At b 4).toInt ∧ (word16At b 4).toInt ≤ 700 ∧ -400 ≤ (word16At b 6).toInt ∧
          (word16At b 6).toInt ≤ 700 ∧ (word16At b 6).toInt < (word16At b 4).toInt ∧
          (word32At b 28).toNat ≤ (word32At b 32).toNat ∧
          ((byteAt b 40).toNat % 4 ≠ 3 → word32At b 36 = 0xFFFFFFFF) ∧
          ((byteAt b 40).toNat % 4 = 3 → (word32At b 36).toNat ≤ (word32At b 32).toNat)) ∧
        (∀ k r, s.record? k = some r → r.id ≠ word32At b 0) ∧ profileMatches b (s.profileAt 0) = true ∧
        s.record? 4 = none ∧ (∀ k, k < 4 → s.record? k ≠ none) ∧ s.ct.stage.length < 8) ∧
      (payload (.adoptCommit (sent 0)) s = [4] ∧ t.ct.stage = [1, 2, 4] ∧ t.ct.index = [3, 4, 1, 2, 0] ∧
        ((t.record? 4).map fun r => (r.custody, r.status, r.marks.adopted, r.blindSeconds, r.custodySeconds, r.fold)) =
          some (.staged 640, .unproven, true, 1000, 1500,
            crcBytes 0x55AA [11, 0, 5, 2, 0, 0, 5, 220])) := by
  refine ⟨⟨by decide +kernel, indexed_of (by decide +kernel) (by decide +kernel), by decide +kernel, by decide +kernel, by decide +kernel, by decide +kernel,
    fun k r hr => ?_, by decide +kernel, by decide +kernel, by decide +kernel, by decide +kernel⟩, by decide +kernel⟩
  have := stocked_without (id := 77) (by decide +kernel) k r hr
  have hb : word32At ((buffered stocked).hu.parts.flatMap Vector.toList) 0 = 77 := by decide +kernel
  rw [hb]; exact this

/-! ### Arithmetic -/

theorem witness_ConversionRoundsHalvesAway :
    (65535 ≤ 65535 ∧ (0 : Nat) ≤ 65535 ∧ (-4095 : Int) ≤ 4095) ∧ convertCount 65535 0 4095 = 1048304 ∧
      convertCount 0 65535 4095 = -1048304 ∧ convertCount 5001 5000 128 = 1 ∧ convertCount 4999 5000 128 = -1 := by decide
theorem witness_SettleChargesTheInterval :
    let r := plain 9 (.staged 600) 50
    r.lastCharge? = some 600 ∧
      [600, 601].map (fun t => (r.settle (stocked.readings r) t).1.custodySeconds) = [50, 51] ∧
      (stocked.readings r).blind = true := by decide

end Sys2Proof.Tests
end

/-! The conversion of a count to a temperature (R24): what a reading records, and how V / 256 is rounded. -/

namespace Sys2Proof.Machine

/-! ### What a reading records -/

/-- Applying an accepted reading leaves the recorded temperature alone (R27, R28). -/
@[simp] theorem Probe.accept_lastTemp (x : Int) (p : Probe) : (p.accept x).lastTemp = p.lastTemp := by
  unfold Probe.accept
  cases p.state <;> rfl

/-- Applying a rejected reading leaves the recorded temperature alone (R27). -/
@[simp] theorem Probe.reject_lastTemp (p : Probe) : p.reject.lastTemp = p.lastTemp := by
  unfold Probe.reject
  cases p.state with
  | off => rfl
  | filling => split_ifs <;> rfl
  | active => split_ifs <;> rfl
  | faulted => rfl

/-- An accepted and a rejected reading alike record the converted count before any clamping (R27). -/
theorem Probe.read_lastTemp (n : Nat) {p : Probe} (hon : p.state ≠ .off) :
    (p.read n).lastTemp = convertCount n p.zeroCount p.gain := by
  rw [Probe.read, if_neg hon]
  dsimp only
  split
  · exact Probe.reject_lastTemp _
  · exact Probe.accept_lastTemp _ _

/-- The gate-close of a probe that counted converts with the zero count and the gain it then has (R23, R24). -/
theorem Probe.closeGate_lastTemp {n : Nat} {p : Probe} (hn : p.edges = some n) (hon : p.state ≠ .off) :
    p.closeGate.lastTemp = convertCount n p.zeroCount p.gain := by
  simp only [Probe.closeGate, hn]
  exact Probe.read_lastTemp n hon

/-! ### The rounding -/

theorem divRound256_of_nonneg {v : Int} (hv : 0 ≤ v) : divRound256 v = (v + 128) / 256 := if_pos hv

/-- The rounding is symmetric about 0, which is what sends both kinds of half away from zero. -/
@[simp] theorem divRound256_neg (v : Int) : divRound256 (-v) = -divRound256 v := by
  unfold divRound256
  split <;> split <;> omega

theorem divRound256_neg_distance (v : Int) : |256 * divRound256 (-v) - -v| = |256 * divRound256 v - v| := by
  rw [divRound256_neg, mul_neg, ← neg_sub', abs_neg]

/-- No integer is nearer to v / 256 than the rounded one: they are at most a half apart. -/
theorem divRound256_nearest (v : Int) : 2 * |256 * divRound256 v - v| ≤ 256 := by
  wlog hv : 0 ≤ v generalizing v
  · exact divRound256_neg_distance v ▸ this (-v) (by omega)
  · rw [divRound256_of_nonneg hv, Int.abs_eq_natAbs]
    omega

/-- When v / 256 lies halfway between two integers, the rounded one is the one farther from zero. -/
theorem divRound256_half_away {v : Int} (half : 2 * |256 * divRound256 v - v| = 256) :
    |v| < 256 * |divRound256 v| := by
  wlog hv : 0 ≤ v generalizing v
  · have h := this (v := -v) (by rwa [divRound256_neg_distance]) (by omega)
    rwa [divRound256_neg, abs_neg, abs_neg] at h
  · rw [divRound256_of_nonneg hv, Int.abs_eq_natAbs] at half ⊢
    rw [Int.abs_eq_natAbs]
    omega

/-! ### The range of the product -/

/-- The product V of R24 for every count, zero count and gain in range: 268,365,825 is 65535 × 4095. -/
theorem abs_countProduct_le {n z : Nat} {k : Int} (hn : n ≤ 65535) (hz : z ≤ 65535) (hlo : -4095 ≤ k)
    (hhi : k ≤ 4095) : |((n : Int) - z) * k| ≤ 268365825 := by
  have hdiff : |(n : Int) - z| ≤ 65535 := abs_le.mpr ⟨by omega, by omega⟩
  have hgain : |k| ≤ 4095 := abs_le.mpr ⟨hlo, hhi⟩
  calc |((n : Int) - z) * k| = |(n : Int) - z| * |k| := abs_mul _ _
    _ ≤ 65535 * 4095 := mul_le_mul hdiff hgain (abs_nonneg k) (by decide)
    _ = 268365825 := by decide

/-- Settles O57: a gate-close records `convertCount`, which is `divRound256` of a product in range; its rounding is
shown for v ≥ 0 and carried to v < 0 by symmetry. -/
theorem conversionRoundsHalvesAway : Obligations.ConversionRoundsHalvesAway := by
  intro n z k hn hz hlo hhi v t
  obtain ⟨hlow, hhigh⟩ := abs_le.mp (abs_countProduct_le hn hz hlo hhi)
  refine ⟨?_, hhigh, hlow, divRound256_nearest v, divRound256_half_away⟩
  rintro q hedges rfl rfl hon
  exact Probe.closeGate_lastTemp hedges hon

end Sys2Proof.Machine

/-! The CRC of the fold unit (R125): feeding a bit as arithmetic, feeding in turn, and the bytes of a field. -/

namespace Sys2Proof.Machine

/-! ### Feeding a bit -/

/-- The shift of R125: the top bit drops off. -/
theorem toNat_shiftLeft_one_word16 (f : Word16) : (f <<< 1).toNat = 2 * f.toNat % 65536 := by
  rw [BitVec.toNat_shiftLeft, Nat.shiftLeft_eq]
  omega

/-- The top bit of a 16-bit value says that it is at least 8000h. -/
theorem getLsbD_top_word16 (f : Word16) : f.getLsbD 15 = decide (32768 ≤ f.toNat) :=
  BitVec.msb_eq_decide f

/-- Feeding the bit equal to the top bit: the feedback is 0, so the value only shifts (R125). -/
theorem crcBit_of_top_eq {f : Word16} {b : Bool} (top : f.getLsbD 15 = b) : crcBit f b = f <<< 1 :=
  if_neg fun unlike => bne_iff_ne.mp unlike top

/-- Feeding the bit unlike the top bit: the feedback is 1, so the polynomial 1021h comes in (R125). -/
theorem crcBit_of_top_ne {f : Word16} {b : Bool} (top : f.getLsbD 15 ≠ b) : crcBit f b = f <<< 1 ^^^ 0x1021 :=
  if_pos (bne_iff_ne.mpr top)

theorem crcBit_toNat (f : Word16) (b : Bool) :
    (crcBit f b).toNat =
      if decide (32768 ≤ f.toNat) = b then 2 * f.toNat % 65536 else (2 * f.toNat % 65536) ^^^ 4129 := by
  rw [← getLsbD_top_word16]
  split
  next top => rw [crcBit_of_top_eq top, toNat_shiftLeft_one_word16]
  next top =>
    rw [crcBit_of_top_ne top, BitVec.toNat_xor, toNat_shiftLeft_one_word16]
    rfl

/-! ### Feeding bytes and fields in turn -/

@[simp] theorem crcBytes_nil (f : Word16) : crcBytes f [] = f := rfl

@[simp] theorem crcBytes_cons (f : Word16) (x : Byte) (xs : List Byte) :
    crcBytes f (x :: xs) = crcBytes (crcByte f x) xs := rfl

theorem crcBytes_append (f : Word16) (xs ys : List Byte) :
    crcBytes f (xs ++ ys) = crcBytes (crcBytes f xs) ys := List.foldl_append

/-! ### The bytes of a field -/

/-- A byte of a field is a base-256 digit of its value. -/
theorem extractLsb'_eight_toNat {w : Nat} (x : BitVec w) (start : Nat) :
    (x.extractLsb' start 8).toNat = x.toNat / 2 ^ start % 256 := by
  rw [BitVec.extractLsb'_toNat, Nat.shiftRight_eq_div_pow]

theorem bytes16_toNat (w : Word16) : (bytes16 w).map BitVec.toNat = [w.toNat / 256, w.toNat % 256] := by
  have high : w.toNat / 256 % 256 = w.toNat / 256 := by omega
  simp only [bytes16, List.map, extractLsb'_eight_toNat, Nat.reducePow, Nat.div_one, high]

theorem bytes32_toNat (w : Word32) :
    (bytes32 w).map BitVec.toNat =
      [w.toNat / 16777216, w.toNat / 65536 % 256, w.toNat / 256 % 256, w.toNat % 256] := by
  have high : w.toNat / 16777216 % 256 = w.toNat / 16777216 := by omega
  simp only [bytes32, List.map, extractLsb'_eight_toNat, Nat.reducePow, Nat.div_one, high]

/-- The two bytes of a signed field are those of its residue modulo 65536, which is two's complement. -/
theorem int16_toNat (x : Int) :
    (int16 x).map BitVec.toNat = [((x % 65536) / 256).toNat, (x % 256).toNat] := by
  have residue : (BitVec.ofInt 16 x).toNat = (x % 65536).toNat := BitVec.toNat_ofInt x
  rw [int16, bytes16_toNat, residue]
  congr 2 <;> omega

/-- The four bytes of a signed field are those of its residue modulo 4294967296, which is two's complement. -/
theorem int32_toNat (x : Int) :
    (int32 x).map BitVec.toNat =
      [((x % 4294967296) / 16777216).toNat, ((x % 16777216) / 65536).toNat, ((x % 65536) / 256).toNat,
        (x % 256).toNat] := by
  have residue : (BitVec.ofInt 32 x).toNat = (x % 4294967296).toNat := BitVec.toNat_ofInt x
  rw [int32, bytes32_toNat, residue]
  congr 4 <;> omega

/-! ### What starts at FFFFh -/

/-- The step block of a LOAD: from no place, with the new record INTACT and no custody seconds yet (R127). -/
theorem stepBlock_load (compartment : Nat) :
    stepBlock .load 0 compartment .intact 0 = [1, 0, BitVec.ofNat 8 compartment, 0, 0, 0, 0, 0] := rfl

/-- The fold of a new record is one computation from FFFFh, over its ID and then its LOAD step (R125, R126). -/
theorem loadedRecord_fold (id : Word32) (profile compartment now : Nat) :
    (loadedRecord id profile compartment now).fold =
      crcBytes 0xFFFF (bytes32 id ++ [1, 0, BitVec.ofNat 8 compartment, 0, 0, 0, 0, 0]) := by
  rw [crcBytes_append, ← stepBlock_load]
  rfl

/-- Settles O59: the arithmetic of one bit, then feeding in turn, the bytes of a field as base-256 digits, and the two
computations that start at FFFFh; the order of a byte's bits and the image check are the model's definitions
themselves. -/
theorem crcFeedsMostSignificantBitFirst : Obligations.CrcFeedsMostSignificantBitFirst :=
  ⟨crcBit_toNat, fun _ _ => rfl, crcBytes_nil, crcBytes_cons, crcBytes_append, bytes32_toNat, bytes16_toNat,
    fun x _ _ => int16_toNat x, fun x _ _ => int32_toNat x, loadedRecord_fold, fun _ => rfl⟩

end Sys2Proof.Machine

/-! ADOPT_ABORT (R151): its body clears the adoption buffer, with no check before it. -/

namespace Sys2Proof.Machine

/-- Clearing the buffer keeps the rest of the hand-off unit, which is the confirmation window. -/
@[simp] theorem State.clearBuffer_hu (s : State) : s.clearBuffer.hu = { s.hu with parts := [] } := rfl

theorem exec_adoptAbort (fr : Frame) (s : State) :
    exec (.adoptAbort fr) s = .next (s.receiveCommand 0x36 fr fun s => (s.clearBuffer, okReply [])) := rfl

/-- The state after ADOPT_ABORT: the transaction taken, the buffer cleared, the OK held, the lines evaluated. -/
def State.adoptAborted (s : State) : State :=
  ((s.takeTransaction 2).clearBuffer.setExecuting (okReply [])).evaluateLines

/-- A ready link carries ADOPT_ABORT out whatever the buffer holds: its body leaves link, lines and the model's own
fields alone. -/
theorem carried_adoptAbort {s : State} (hs : s.ready) :
    Carried (.adoptAbort (Frame.exact 0)) 0 s s.adoptAborted (okReply []) :=
  carried_of (exec_adoptAbort _ s) hs rfl (Nat.zero_le 40) rfl rfl rfl rfl rfl

/-- Of the blocks that hold the part's data, ADOPT_ABORT changes the hand-off unit alone, and there the buffer alone. -/
theorem State.adoptAborted_frame (s : State) :
    s.adoptAborted.hu = { s.hu with parts := [] } ∧ s.adoptAborted.tb = s.tb ∧ s.adoptAborted.ps = s.ps ∧
      s.adoptAborted.zm = s.zm ∧ s.adoptAborted.pt = s.pt ∧ s.adoptAborted.ct = s.ct ∧ s.adoptAborted.ae = s.ae ∧
      s.adoptAborted.au.attention = s.au.attention := by
  simp [State.adoptAborted]

/-- Settles O54: ADOPT_ABORT has no check that could fail, so a ready link carries it out from every state. -/
theorem adoptAbortClearsTheBuffer : Obligations.AdoptAbortClearsTheBuffer :=
  fun s hs => ⟨s.adoptAborted, carried_adoptAbort hs, s.adoptAborted_frame⟩

end Sys2Proof.Machine

/-! ACK_ALERT (R175): it clears one line's latch; with the lines up to date the evaluation after it changes nothing. -/

namespace Sys2Proof.Machine

/-! ### Reading a line -/

/-- A change to one line is read on that line alone. -/
theorem State.line_modifyLine (line : Nat) (f : Line → Line) (s : State) (i : Fin 2) :
    (s.modifyLine line f).au.lines[i] = if i.val = line then f s.au.lines[i] else s.au.lines[i] := by
  simp [State.modifyLine]

/-- The conditions read nothing of the lines. -/
@[simp] theorem State.level_modifyLine (line : Nat) (f : Line → Line) (s : State) (c : Condition) :
    (s.modifyLine line f).level c = s.level c :=
  State.level_congr c rfl rfl rfl rfl rfl

/-- A line in LATCH mode is high in RUN exactly while its latch is set (R173, R176). -/
theorem State.alertHigh_of_latchMode {s : State} {i : Fin 2} (latching : s.au.lines[i].mode = .latch) :
    s.alertHigh i = (s.running && s.au.lines[i].latch) := by
  have present : s.au.lines[i.val]? = some s.au.lines[i] := Vector.getElem?_eq_getElem i.isLt
  simp only [State.alertHigh, present, latching]

/-! ### Lines that are up to date -/

/-- A line whose reference is its condition's level is left as it stands by an evaluation (R172). -/
theorem Line.evaluate_of_current {run level : Bool} {l : Line} (current : l.reference = level) :
    l.evaluate run level = l :=
  if_pos current.symm

theorem State.evaluateLines_of_linesCurrent {s : State} (current : s.linesCurrent) :
    s.evaluateLines.au.lines = s.au.lines := by
  ext1 i hi
  have evaluated := s.line_evaluateLines ⟨i, hi⟩
  rwa [Line.evaluate_of_current (current ⟨i, hi⟩)] at evaluated

/-- A change to a line that leaves its condition and reference alone leaves the lines up to date. -/
theorem State.linesCurrent_modifyLine {line : Nat} {f : Line → Line} {s : State}
    (hcond : ∀ l, (f l).condition = l.condition) (href : ∀ l, (f l).reference = l.reference)
    (current : s.linesCurrent) : (s.modifyLine line f).linesCurrent := by
  intro i
  rw [State.line_modifyLine, State.level_modifyLine]
  split
  · rw [hcond, href, current i]
  · exact current i

/-! ### The answer of a command that writes the lines -/

/-- A command sent whole to a ready link is answered as `Answered` says, whatever its body does to the lines. -/
theorem answered_of {i : Instr} {code : Byte} {n : Nat} {body : State → State × Reply} {s m : State} {r : Reply}
    (hx : exec i s = .next (s.receiveCommand code (Frame.exact n) body)) (hs : s.ready)
    (hn : payloadLength? code = some n) (h40 : n ≤ 40) (hb : body (s.takeTransaction (2 + n)) = (m, r))
    (hli : m.li = (s.takeTransaction (2 + n)).li) (hf : m.freeCount = s.freeCount) (hp : m.pending = s.pending) :
    Answered i n s (m.setExecuting r).evaluateLines r := by
  refine ⟨?_, ?_, hf, hp⟩
  · rw [hx, State.receiveCommand_carried hs (frameRefusal?_exact hn h40)]
    simp only [Frame.exact, hb]
  · obtain ⟨_, _, notWaiting, _⟩ := hs
    simp [State.setExecuting, hli, State.takeTransaction, commandSdo, notWaiting]

/-! ### ACK_ALERT -/

/-- What an acknowledgement makes of a line (R175). -/
def Line.acknowledge (l : Line) : Line := { l with latch := false }

/-- The one check of ACK_ALERT (R175). -/
def ackAlertChecks (line : Byte) (_ : State) : List (Bool × ResultCode) := [(decide (1 < line.toNat), .range)]

theorem exec_ackAlert (fr : Frame) (line : Byte) (s : State) :
    exec (.ackAlert fr line) s = .next (s.receiveCommand 0x16 fr
      (command (ackAlertChecks line) fun s => (s.modifyLine line.toNat Line.acknowledge, okReply []))) := rfl

theorem ackAlert_refused {line : Byte} {s : State} (hs : s.ready) (out : 1 < line.toNat) :
    Refuses (.ackAlert (Frame.exact 1) line) 1 s .range :=
  refuses_of (exec_ackAlert _ line s) hs rfl (by decide) (by simp [ackAlertChecks, firstRefusal, out])

/-- The state after ACK_ALERT: the transaction taken, the latch cleared, the OK held, the lines evaluated. -/
def State.alertAcknowledged (line : Nat) (s : State) : State :=
  (((s.takeTransaction 3).modifyLine line Line.acknowledge).setExecuting (okReply [])).evaluateLines

theorem answered_ackAlert {line : Byte} {s : State} (hs : s.ready) (within : line.toNat ≤ 1) :
    Answered (.ackAlert (Frame.exact 1) line) 1 s (s.alertAcknowledged line.toNat) (okReply []) := by
  have passes : firstRefusal (ackAlertChecks line (s.takeTransaction 3)) = none := by
    simp [ackAlertChecks, firstRefusal, within]
  exact answered_of (exec_ackAlert _ line s) hs rfl (by decide) (command_carried passes) rfl rfl rfl

/-- With the lines up to date the evaluation after the command changes neither line, so the acknowledgement is all that
happens to them. -/
theorem State.line_alertAcknowledged {s : State} (current : s.linesCurrent) (line : Nat) (i : Fin 2) :
    (s.alertAcknowledged line).au.lines[i] =
      if i.val = line then (s.au.lines[i]).acknowledge else s.au.lines[i] := by
  have acknowledged : (s.modifyLine line Line.acknowledge).linesCurrent :=
    State.linesCurrent_modifyLine (fun _ => rfl) (fun _ => rfl) current
  have evaluated : (s.alertAcknowledged line).au.lines = (s.modifyLine line Line.acknowledge).au.lines :=
    State.evaluateLines_of_linesCurrent
      (s := ((s.takeTransaction 3).modifyLine line Line.acknowledge).setExecuting (okReply [])) acknowledged
  rw [evaluated, State.line_modifyLine]

/-- Settles O43: the range check refuses; a taken ACK_ALERT clears the latch, and the evaluation that follows finds both
references up to date. -/
theorem ackAlertClearsTheLatch : Obligations.AckAlertClearsTheLatch := by
  refine fun line s hs => ⟨ackAlert_refused hs, fun current l hl => ?_⟩
  have acked : (s.alertAcknowledged line.toNat).au.lines[l] = (s.au.lines[l]).acknowledge := by
    rw [State.line_alertAcknowledged current, if_pos hl.symm]
  refine ⟨s.alertAcknowledged line.toNat, answered_ackAlert hs (by omega), acked, fun latching => ?low,
    fun m hm => ?other, rfl, rfl, rfl, rfl, rfl, rfl, rfl, rfl⟩
  case low =>
    rw [State.alertHigh_of_latchMode (by rw [acked]; exact latching), acked]
    exact Bool.and_false _
  case other => rw [State.line_alertAcknowledged current, if_neg (by omega)]

end Sys2Proof.Machine

/-! The figures of a record (chapter 6): what a charge, an evaluation, a settle and a thaw make of them. -/

namespace Sys2Proof.Machine

/-! ### Saturating sums -/

theorem le_satAdd32 {a : Nat} (b : Nat) (ha : a ≤ maxU32) : a ≤ satAdd32 a b := by
  unfold satAdd32 satAdd
  omega

theorem satAdd32_le (a b : Nat) : satAdd32 a b ≤ maxU32 := Nat.min_le_right _ _

theorem satAdd32_mono {a b : Nat} (h : a ≤ b) (d : Nat) : satAdd32 a d ≤ satAdd32 b d := by
  unfold satAdd32 satAdd
  omega

/-! ### The status evaluation (R113, R114) -/

/-- The status rises to the candidate where that is greater, and stands otherwise. -/
theorem Record.evaluate_status (p : Profile) (r : Record) :
    (r.evaluate p).1.status =
      if r.status.ordinal < (candidate p r).ordinal then candidate p r else r.status := by
  unfold Record.evaluate Record.rise
  split
  · split <;> simp_all [Record.foldStep]
  · rfl

theorem Record.evaluate_custody (p : Profile) (r : Record) : (r.evaluate p).1.custody = r.custody := by
  rw [Record.evaluate_stands]

theorem Record.evaluate_custodySeconds (p : Profile) (r : Record) :
    (r.evaluate p).1.custodySeconds = r.custodySeconds := by
  rw [Record.evaluate_stands]

theorem Record.evaluate_marks (p : Profile) (r : Record) : (r.evaluate p).1.marks = r.marks := by
  rw [Record.evaluate_stands]

/-- A candidate of BROKEN names the custody seconds of its evaluation (R113). -/
theorem candidate_broken {p : Profile} {r : Record} {b : Nat} (h : candidate p r = .broken b) :
    b = r.custodySeconds := by
  unfold candidate at h
  split_ifs at h
  exact (Status.broken.inj h).symm

theorem Status.ordinal_le (x : Status) : x.ordinal ≤ 3 := by
  cases x <;> simp [Status.ordinal]

theorem Status.ordinal_broken (b : Nat) : (Status.broken b).ordinal = 3 := rfl

/-! ### The settle, once -/

/-- A settle does nothing, or charges the interval since the last charge and evaluates the status (R103). -/
theorem Record.settle_cases (g : Readings) (t : Nat) (r : Record) :
    (r.settle g t = (r, none) ∧ ∀ since, r.lastCharge? = some since → t ≤ since) ∨
      ∃ since, r.lastCharge? = some since ∧ since < t ∧
        r.settle g t = (r.charge g since (t - since) t).evaluate g.profile := by
  unfold Record.settle
  split
  next idle => exact .inl ⟨rfl, fun since h => by simp [idle] at h⟩
  next since charged =>
    split
    next early => exact .inl ⟨rfl, fun x h => by rw [charged] at h; cases h; exact early⟩
    next late => exact .inr ⟨since, charged, by omega, rfl⟩

@[simp] theorem Record.charge_custody (g : Readings) (since delta t : Nat) (r : Record) :
    (r.charge g since delta t).custody = r.custody.chargedAt t := by
  unfold Record.charge chargeBlind chargeSensed
  split <;> rfl

@[simp] theorem Record.charge_custodySeconds (g : Readings) (since delta t : Nat) (r : Record) :
    (r.charge g since delta t).custodySeconds = satAdd32 r.custodySeconds delta := by
  unfold Record.charge chargeBlind chargeSensed
  split <;> rfl

/-- A record that has a last charge has been charged up to that second and the custody a settle gives it differs in that
second alone. -/
theorem Record.settle_custody (g : Readings) (t : Nat) (r : Record) :
    (r.settle g t).1.custody = r.custody ∨ (r.settle g t).1.custody = r.custody.chargedAt t := by
  rcases r.settle_cases g t with ⟨idle, -⟩ | ⟨since, -, -, charged⟩
  · exact .inl (by rw [idle])
  · exact .inr (by rw [charged, Record.evaluate_custody, Record.charge_custody])

/-- A record without a last charge, HANDOVER or CLOSED, is not settled (R103). -/
theorem Record.settle_of_uncharged {g : Readings} {t : Nat} {r : Record} (h : r.lastCharge? = none) :
    r.settle g t = (r, none) := by
  simp [Record.settle, h]

/-! ### A record only worsens -/

/-- What a record keeps and what only grows on it while it exists (R70, R71, R111 to R113). -/
structure Record.Worsens (r r' : Record) : Prop where
  id : r'.id = r.id
  profile : r'.profile = r.profile
  upper : r.upperExposure ≤ r'.upperExposure
  lower : r.lowerExposure ≤ r'.lowerExposure
  blind : r.blindSeconds ≤ r'.blindSeconds
  custody : r.custodySeconds ≤ r'.custodySeconds
  peak : r.peakExcess ≤ r'.peakExcess
  handOffs : r.handOffs ≤ r'.handOffs
  status : r.status.ordinal ≤ r'.status.ordinal
  firstBreak : ∀ b, r.status = .broken b → r'.status = .broken b
  adopted : r'.marks.adopted = r.marks.adopted
  timing : r.marks.timing = true → r'.marks.timing = true

theorem Record.Worsens.refl (r : Record) : r.Worsens r :=
  ⟨rfl, rfl, le_rfl, le_rfl, le_rfl, le_rfl, le_rfl, le_rfl, le_rfl, fun _ h => h, rfl, fun h => h⟩

theorem Record.Worsens.trans {a b c : Record} (h : a.Worsens b) (k : b.Worsens c) : a.Worsens c :=
  ⟨k.id.trans h.id, k.profile.trans h.profile, h.upper.trans k.upper, h.lower.trans k.lower, h.blind.trans k.blind,
    h.custody.trans k.custody, h.peak.trans k.peak, h.handOffs.trans k.handOffs, h.status.trans k.status,
    fun x hx => k.firstBreak x (h.firstBreak x hx), k.adopted.trans h.adopted, fun hx => k.timing (h.timing hx)⟩

theorem Record.evaluate_worsens (p : Profile) (r : Record) : r.Worsens (r.evaluate p).1 := by
  have status := r.evaluate_status p
  rw [Record.evaluate_stands]
  refine ⟨rfl, rfl, le_rfl, le_rfl, le_rfl, le_rfl, le_rfl, le_rfl, ?_, fun b hb => ?_, rfl, fun h => h⟩
  · show _ ≤ (r.evaluate p).1.status.ordinal
    rw [status]
    split <;> omega
  · show (r.evaluate p).1.status = _
    have noRise : ¬r.status.ordinal < (candidate p r).ordinal := by
      have := (candidate p r).ordinal_le
      rw [hb, Status.ordinal_broken]
      omega
    rw [status, if_neg noRise, hb]

theorem Record.charge_worsens (g : Readings) (since delta t : Nat) {r : Record} (h : r.lawful) :
    r.Worsens (r.charge g since delta t) := by
  obtain ⟨upper, lower, custody, blind, -⟩ := h
  unfold Record.charge chargeBlind chargeSensed
  cases g.blind with
  | true =>
    exact ⟨rfl, rfl, le_rfl, le_rfl, le_satAdd32 _ (blind.trans custody), le_satAdd32 _ custody, le_rfl, le_rfl, le_rfl,
      fun _ hb => hb, rfl, fun ht => by simp [ht]⟩
  | false =>
    exact ⟨rfl, rfl, le_satAdd32 _ upper, le_satAdd32 _ lower, le_rfl, le_satAdd32 _ custody, le_max_left _ _, le_rfl,
      le_rfl, fun _ hb => hb, rfl, fun ht => by simp [ht]⟩

theorem Record.settle_worsens (g : Readings) (t : Nat) {r : Record} (h : r.lawful) : r.Worsens (r.settle g t).1 := by
  rcases r.settle_cases g t with ⟨idle, -⟩ | ⟨since, -, -, charged⟩
  · rw [idle]
    exact .refl r
  · rw [charged]
    exact (r.charge_worsens g _ _ _ h).trans (Record.evaluate_worsens _ _)

theorem Record.thaw_worsens (degraded : Bool) (last : Option Nat) (frozenAt t : Nat) {r : Record} (h : r.lawful) :
    r.Worsens (r.thaw degraded last frozenAt t) := by
  obtain ⟨-, -, custody, blind, -⟩ := h
  exact ⟨rfl, rfl, le_rfl, le_rfl, le_satAdd32 _ (blind.trans custody), le_satAdd32 _ custody, le_rfl, le_rfl, le_rfl,
    fun _ hb => hb, rfl, fun ht => by simp [Record.thaw, ht]⟩

/-! ### The laws of a record's figures -/

/-- The largest excess that temperatures in range allow: 700 above a limit of −400 (R107, R108). -/
structure Readings.Bounded (g : Readings) : Prop where
  warm : g.warm ≤ 700
  cold : -400 ≤ g.cold
  raise : 0 ≤ g.raise
  upper : -400 ≤ g.profile.upper
  lower : g.profile.lower ≤ 700

theorem Readings.Bounded.upperExcess_le {g : Readings} (h : g.Bounded) : upperExcess g ≤ 1100 := by
  obtain ⟨_, _, _, _, _⟩ := h
  unfold upperExcess
  omega

theorem Readings.Bounded.lowerExcess_le {g : Readings} (h : g.Bounded) : lowerExcess g ≤ 1100 := by
  obtain ⟨_, _, _, _, _⟩ := h
  unfold lowerExcess
  omega

theorem Record.evaluate_lawful (p : Profile) {r : Record} (h : r.lawful) : (r.evaluate p).1.lawful := by
  obtain ⟨upper, lower, custody, blind, peak, handOffs, first⟩ := h
  have status := r.evaluate_status p
  rw [Record.evaluate_stands]
  refine ⟨upper, lower, custody, blind, peak, handOffs, fun b hb => ?_⟩
  change (r.evaluate p).1.status = .broken b at hb
  rw [status] at hb
  split at hb
  · exact (candidate_broken hb).le
  · exact first b hb

theorem Record.charge_lawful {g : Readings} (since delta t : Nat) {r : Record} (hg : g.Bounded) (h : r.lawful) :
    (r.charge g since delta t).lawful := by
  obtain ⟨upper, lower, custody, blind, peak, handOffs, first⟩ := h
  have hu := hg.upperExcess_le
  have hl := hg.lowerExcess_le
  have later : ∀ b, r.status = .broken b → b ≤ satAdd32 r.custodySeconds delta :=
    fun b hb => (first b hb).trans (le_satAdd32 _ custody)
  unfold Record.charge chargeBlind chargeSensed
  cases g.blind with
  | true => exact ⟨upper, lower, satAdd32_le _ _, satAdd32_mono blind _, peak, handOffs, later⟩
  | false =>
    refine ⟨satAdd32_le _ _, satAdd32_le _ _, satAdd32_le _ _, blind.trans (le_satAdd32 _ custody), ?_, handOffs,
      later⟩
    simp only [Bool.false_eq_true, if_false]
    omega

theorem Record.settle_lawful {g : Readings} (t : Nat) {r : Record} (hg : g.Bounded) (h : r.lawful) :
    (r.settle g t).1.lawful := by
  rcases r.settle_cases g t with ⟨idle, -⟩ | ⟨since, -, -, charged⟩
  · rwa [idle]
  · rw [charged]
    exact Record.evaluate_lawful _ (Record.charge_lawful _ _ _ hg h)

theorem Record.thaw_lawful (degraded : Bool) (last : Option Nat) (frozenAt t : Nat) {r : Record} (h : r.lawful) :
    (r.thaw degraded last frozenAt t).lawful := by
  obtain ⟨upper, lower, custody, blind, peak, handOffs, first⟩ := h
  exact ⟨upper, lower, satAdd32_le _ _, satAdd32_mono blind _, peak, handOffs,
    fun b hb => (first b hb).trans (le_satAdd32 _ custody)⟩

end Sys2Proof.Machine

/-! What one step can do to the consignment table and the profile table, said once: every invariant of the
table is then a case analysis over these few effects instead of over the 63 commands and events. -/

namespace Sys2Proof.Machine

theorem Unmoved.refl (s : State) : Unmoved s s := ⟨rfl, rfl, rfl, rfl, rfl, rfl, rfl⟩

theorem Unmoved.trans {s t u : State} (h : Unmoved s t) (k : Unmoved t u) : Unmoved s u := by
  obtain ⟨h1, h2, h3, h4, h5, h6, h7⟩ := h
  obtain ⟨k1, k2, k3, k4, k5, k6, k7⟩ := k
  exact ⟨k1.trans h1, k2.trans h2, k3.trans h3, k4.trans h4, k5.trans h5, k6.trans h6, k7.trans h7⟩

theorem Unmoved.symm {s t : State} (h : Unmoved s t) : Unmoved t s := by
  obtain ⟨h1, h2, h3, h4, h5, h6, h7⟩ := h
  exact ⟨h1.symm, h2.symm, h3.symm, h4.symm, h5.symm, h6.symm, h7.symm⟩

/-! ### What is read of blocks that stand -/

theorem State.zoneAt_congr {s t : State} (h : t.zm.zones = s.zm.zones) (z : Nat) : t.zoneAt z = s.zoneAt z := by
  cases z with
  | zero => rfl
  | succ n => simp only [State.zoneAt, h]

theorem State.compAt_congr {s t : State} (h : t.zm.comps = s.zm.comps) (c : Nat) : t.compAt c = s.compAt c := by
  cases c with
  | zero => rfl
  | succ n => simp only [State.compAt, h]

theorem State.probeAt_congr {s t : State} (h : t.ps.probes = s.ps.probes) (p : Nat) : t.probeAt p = s.probeAt p := by
  simp only [State.probeAt, h]

theorem State.profileAt_congr {s t : State} (h : t.pt = s.pt) (i : Nat) : t.profileAt i = s.profileAt i := by
  simp only [State.profileAt, h]

theorem State.membersOf_congr {s t : State} (h : t.ct.members = s.ct.members) (c : Nat) :
    t.membersOf c = s.membersOf c := by
  cases c with
  | zero => rfl
  | succ n => simp only [State.membersOf, h]

theorem State.compPresent_congr {s t : State} (h : t.tb = s.tb) (c : Nat) : t.compPresent c = s.compPresent c := by
  simp only [State.compPresent, h]

/-! ### What a step makes of a record that stays -/

/-- The custodies a settled record can move to, given its last charge (R92, R94, R96 to R98). -/
inductive Move : (Nat → Custody) → Prop
  | toCompartment (c : Nat) : Move (Custody.loaded c)
  | toStage : Move Custody.staged
  | closing (k : CloseKind) : Move fun _ => .closed k

/-- A record settled at now, a step folded to its new place, its custody moved (R85). -/
def State.movedRecord (s : State) (code : StepCode) (after : Nat → Custody) (r : Record) : Record :=
  let settled := (r.settle (s.readings r) s.now).1
  let custody := after (settled.lastCharge?.getD s.now)
  { settled.foldStep code r.place custody.place with custody := custody }

/-- A record settled at now and frozen (R135). -/
def State.frozenRecord (s : State) (r : Record) : Record :=
  (r.settle (s.readings r) s.now).1.freeze s.now s.hu.window

/-- A frozen record closed by a CONFIRM (R139). -/
def Record.confirmed (r : Record) : Record := { r.foldStep .confirm 5 6 with custody := .closed .handedOver }

/-- A frozen record charged blind up to now, evaluated and returned to the stage, with the caller's step and its lapsed
mark (R140 to R142). -/
def State.thawedRecord (s : State) (code : StepCode) (frozenAt : Nat) (lapsed : Bool) (r : Record) : Record :=
  let evaluated := (r.thaw s.tb.degraded s.tb.lastDegraded frozenAt s.now).evaluate (s.profileAt r.profile)
  let stepped := evaluated.1.foldStep code 5 5
  { stepped with marks := { stepped.marks with lapsed := lapsed } }

/-- What a step from `s` can make of a record that is there before and after it. -/
inductive Record.Evolves (s : State) (r : Record) : Record → Prop
  | stands : Evolves s r r
  | visited {p : Pass} (flight : s.ae = some p) : Evolves s r (r.settle (s.readings r) p.tick).1
  | moved {code : StepCode} {after : Nat → Custody} {since : Nat} (charged : r.lastCharge? = some since)
      (move : Move after) : Evolves s r (s.movedRecord code after r)
  | frozen (staged : r.isStaged = true) : Evolves s r (s.frozenRecord r)
  | confirmed (frozen : r.isHandover = true) : Evolves s r r.confirmed
  | thawed {code : StepCode} {frozenAt deadline : Nat} {lapsed : Bool}
      (frozen : r.custody = .handover frozenAt deadline) : Evolves s r (s.thawedRecord code frozenAt lapsed r)

/-- Which list a custody belongs to (R72, R80). -/
inductive Listing
  | member (c : Nat)
  | stage
  | unlisted

def Custody.listing : Custody → Listing
  | .loaded c _ => .member c
  | .staged _ => .stage
  | .handover _ _ => .stage
  | .closed _ => .unlisted

/-! ### The effects -/

/-- There is room for a handle in the list of a custody, and it is the list of a present compartment or the stage. -/
inductive State.Room (s : State) : Custody → Prop
  | member {c t : Nat} (present : s.compPresent c = true) (free : s.compFull c = false) : Room s (.loaded c t)
  | stage {t : Nat} (free : s.stageFull = false) : Room s (.staged t)
  | unlisted {k : CloseKind} : Room s (.closed k)

/-- What an effect on the table leaves: the present count and the capacities. -/
structure Standing (s t : State) : Prop where
  present : t.tb.presentCount = s.tb.presentCount
  capacity : ∀ c, (t.compAt c).capacity = (s.compAt c).capacity

/-- An effect away from the table: it and the profiles stand, and no capacity falls below its member count (R39). -/
structure TableStands (s t : State) : Prop where
  ct : t.ct = s.ct
  pt : t.pt = s.pt
  present : t.tb.presentCount = s.tb.presentCount
  capacity : ∀ c, (t.compAt c).capacity = (s.compAt c).capacity ∨ (s.membersOf c).length ≤ (t.compAt c).capacity

/-- The five values of a profile entry: valid and within 32 bits where it is defined, all 0 where it is not (R62, R63). -/
structure Profile.Lawful (p : Profile) : Prop where
  defined : p.defined = true →
    -400 ≤ p.upper ∧ p.upper ≤ 700 ∧ -400 ≤ p.lower ∧ p.lower ≤ 700 ∧ p.lower < p.upper ∧ p.upperBudget ≤ maxU32 ∧
      p.lowerBudget ≤ maxU32 ∧ p.blindAllowance ≤ maxU32
  undefined : p.defined = false →
    p.upper = 0 ∧ p.lower = 0 ∧ p.upperBudget = 0 ∧ p.lowerBudget = 0 ∧ p.blindAllowance = 0

/-- What one step can do to the table and the profiles. -/
inductive Effect (s t : State) : Prop
  | stands (stand : TableStands s t)
  | emptied (ct : t.ct = State.reset.ct) (pt : t.pt = State.reset.pt) (present : t.tb.presentCount ≤ 4)
  | profileWritten (i : Nat) (f : Profile → Profile) (unused : (s.profileAt i).useCount = 0)
      (count : ∀ p, (f p).useCount = p.useCount) (lawful : ∀ p, (f p).Lawful) (ct : t.ct = s.ct)
      (pt : t.pt = (s.modifyProfile i f).pt) (stand : Standing s t)
  | made (h : Nat) (r : Record) (free : s.record? h = none) (slot : h < 48) (fresh : s.findId? r.id = none)
      (known : r.profile < 8) (defined : (s.profileAt r.profile).defined = true) (lawful : r.lawful)
      (room : s.Room r.custody) (here : t.record? h = some r) (others : OthersStand h s t)
      (index : t.ct.index = ((s.setRecord h (some r)).insertIndex h r.id).ct.index)
      (members : ∀ c, 1 ≤ c → c ≤ 4 → t.membersOf c = s.membersOf c ++ if c = r.place then [h] else [])
      (stage : t.ct.stage = s.ct.stage ++ if r.place = 5 then [h] else [])
      (counted : t.profileAt r.profile =
        { s.profileAt r.profile with useCount := (s.profileAt r.profile).useCount + 1 })
      (profiles : ∀ i, i ≠ r.profile → t.profileAt i = s.profileAt i) (stand : Standing s t)
  | rewritten (h : Nat) (r r' : Record) (before : s.record? h = some r) (evolves : r.Evolves s r')
      (listing : r'.custody.listing = r.custody.listing) (here : t.record? h = some r') (others : OthersStand h s t)
      (index : t.ct.index = s.ct.index) (members : t.ct.members = s.ct.members) (stage : t.ct.stage = s.ct.stage)
      (pt : t.pt = s.pt) (stand : Standing s t)
  | moved (h : Nat) (r r' : Record) (before : s.record? h = some r) (evolves : r.Evolves s r')
      (room : s.Room r'.custody) (here : t.record? h = some r') (others : OthersStand h s t)
      (index : t.ct.index = s.ct.index)
      (members : ∀ c, 1 ≤ c → c ≤ 4 →
        t.membersOf c = (s.membersOf c).filter (· != h) ++ if c = r'.place then [h] else [])
      (stage : t.ct.stage = s.ct.stage.filter (· != h) ++ if r'.place = 5 then [h] else []) (pt : t.pt = s.pt)
      (stand : Standing s t)
  | released (h : Nat) (r : Record) (before : s.record? h = some r) (closed : r.isClosed = true)
      (gone : t.record? h = none) (others : OthersStand h s t) (index : t.ct.index = s.ct.index.filter (· != h))
      (members : t.ct.members = s.ct.members) (stage : t.ct.stage = s.ct.stage)
      (counted : r.profile < 8 → t.profileAt r.profile =
        { s.profileAt r.profile with useCount := (s.profileAt r.profile).useCount - 1 })
      (profiles : ∀ i, i ≠ r.profile → t.profileAt i = s.profileAt i) (stand : Standing s t)

/-- What a step does: an effect, or the expiries of the second followed by what leaves the table alone; before and after
it the link, the lines and the model's own fields may change. -/
inductive Takes (s t : State) : Prop
  | effect (m u : State) (before : Unmoved s m) (effect : Effect m u) (after : Unmoved u t)
  | expiries (m u : State) (before : Unmoved s m) (stand : TableStands m.takeExpiries u) (after : Unmoved u t)

theorem TableStands.of_unmoved {s t : State} (h : Unmoved s t) : TableStands s t := by
  obtain ⟨htb, -, hzm, hpt, hct, -, -⟩ := h
  exact ⟨hct, hpt, by rw [htb], fun c => .inl (by rw [State.compAt_congr (congrArg ZoneMonitor.comps hzm)])⟩

theorem TableStands.refl (s : State) : TableStands s s := .of_unmoved (.refl s)

theorem Takes.of_unmoved {s t : State} (h : Unmoved s t) : Takes s t :=
  .effect s s (.refl s) (.stands (.refl s)) h

theorem Takes.of_effect {s t : State} (h : Effect s t) : Takes s t := .effect s t (.refl s) h (.refl t)

theorem Takes.of_stands {s t : State} (h : TableStands s t) : Takes s t := .of_effect (.stands h)

/-! ### Events and commands -/

theorem unmoved_evaluateLines (s : State) : Unmoved s s.evaluateLines := ⟨rfl, rfl, rfl, rfl, rfl, rfl, rfl⟩

theorem takes_event {holds : Bool} {f : State → State} {s : State} (h : holds = true → Effect s (f s)) :
    Takes s (s.event holds f) := by
  cases holds with
  | false => exact .of_unmoved (.refl s)
  | true => exact .effect s (f s) (.refl s) (h rfl) (unmoved_evaluateLines _)

/-- A command transaction leaves the blocks alone, or carries its body out in RUN (R177, R178, R183). -/
theorem State.receiveCommand_cases (code : Byte) (fr : Frame) (body : State → State × Reply) (s : State) :
    Unmoved s (s.receiveCommand code fr body) ∨
      s.linkLive = true ∧
        s.receiveCommand code fr body =
          ((body (s.takeTransaction fr.whole)).1.setExecuting (body (s.takeTransaction fr.whole)).2).evaluateLines := by
  unfold State.receiveCommand
  split
  · exact .inl (.refl s)
  · split
    · exact .inl ⟨rfl, rfl, rfl, rfl, rfl, rfl, rfl⟩
    · split
      · exact .inl ⟨rfl, rfl, rfl, rfl, rfl, rfl, rfl⟩
      · dsimp only
        split
        · exact .inl ⟨rfl, rfl, rfl, rfl, rfl, rfl, rfl⟩
        · rename_i hlive _ _ _ _
          exact .inr ⟨by simpa using hlive, rfl⟩

theorem unmoved_answered (r : Reply) (s : State) : Unmoved s (s.setExecuting r).evaluateLines :=
  ⟨rfl, rfl, rfl, rfl, rfl, rfl, rfl⟩

theorem unmoved_takeTransaction (w : Nat) (s : State) : Unmoved s (s.takeTransaction w) :=
  ⟨rfl, rfl, rfl, rfl, rfl, rfl, rfl⟩

theorem takes_receive {code : Byte} {fr : Frame} {body : State → State × Reply} (s : State)
    (h : ∀ m, Effect m (body m).1) : Takes s (s.receiveCommand code fr body) := by
  rcases s.receiveCommand_cases code fr body with still | ⟨-, carried⟩
  · exact .of_unmoved still
  · rw [carried]
    exact .effect _ _ (unmoved_takeTransaction _ s) (h _) (unmoved_answered _ _)

/-- A command whose effect is known where its checks pass. -/
theorem takes_command {code : Byte} {fr : Frame} {checks : State → List (Bool × ResultCode)}
    {effect : State → State × Reply} (s : State) (h : ∀ m, firstRefusal (checks m) = none → Effect m (effect m).1) :
    Takes s (s.receiveCommand code fr (command checks effect)) := by
  refine takes_receive s fun m => ?_
  unfold command
  split
  · exact .stands (.refl m)
  · exact h m ‹_›

/-- No check of a list fails exactly if the first does not and none of the rest does. -/
@[simp] theorem firstRefusal_cons_eq_none (fails : Bool) (code : ResultCode) (rest : List (Bool × ResultCode)) :
    firstRefusal ((fails, code) :: rest) = none ↔ fails = false ∧ firstRefusal rest = none := by
  cases fails <;> simp [firstRefusal]

@[simp] theorem firstRefusal_nil : firstRefusal [] = none := rfl

end Sys2Proof.Machine

/-! Which effect each command and event has. -/

namespace Sys2Proof.Machine

/-! ### Effects away from the table -/

/-- An effect that leaves table, profiles, present count and capacities. -/
theorem TableStands.of_fields {s t : State} (ct : t.ct = s.ct) (pt : t.pt = s.pt)
    (present : t.tb.presentCount = s.tb.presentCount) (capacity : ∀ c, (t.compAt c).capacity = (s.compAt c).capacity) : TableStands s t :=
  ⟨ct, pt, present, fun c => .inl (capacity c)⟩

/-- The same where the compartments stand too. -/
theorem TableStands.of_comps {s t : State} (ct : t.ct = s.ct) (pt : t.pt = s.pt)
    (present : t.tb.presentCount = s.tb.presentCount) (comps : t.zm.comps = s.zm.comps) : TableStands s t :=
  .of_fields ct pt present fun c => by rw [State.compAt_congr comps]

theorem State.capacity_modifyComp {f : Compartment → Compartment} (hf : ∀ k, (f k).capacity = k.capacity) (s : State)
    (c d : Nat) : ((s.modifyComp c f).compAt d).capacity = (s.compAt d).capacity := by
  rw [State.compAt_modifyComp]
  split
  · rename_i h; rw [hf, h.1]
  · rfl

theorem State.capacity_mapPresentComps {f : Nat → Compartment → Compartment}
    (hf : ∀ c k, (f c k).capacity = k.capacity) (s : State) (d : Nat) :
    ((s.mapPresentComps f).compAt d).capacity = (s.compAt d).capacity := by
  rw [State.compAt_mapPresentComps]
  split
  · exact hf _ _
  · rfl

@[simp] theorem Compartment.endEpisode_capacity (now : Nat) (c : Compartment) :
    (c.endEpisode now).capacity = c.capacity := by
  unfold Compartment.endEpisode
  split <;> rfl

@[simp] theorem Compartment.backupEntry_capacity (now : Nat) (c : Compartment) :
    (c.backupEntry now).capacity = c.capacity := by
  simp only [Compartment.backupEntry, Compartment.endEpisode_capacity]
  split <;> rfl

@[simp] theorem Compartment.applyMask_capacity (now : Nat) (b : Bool) (c : Compartment) :
    (c.applyMask now b).capacity = c.capacity := by
  simp only [Compartment.applyMask]
  split
  · exact Compartment.endEpisode_capacity now c
  · rfl

@[simp] theorem returnCompartment_capacity (now : Nat) (level : Bool) (c : Compartment) :
    (returnCompartment now level c).capacity = c.capacity := by
  cases level <;> rfl

theorem stands_enterBackup (s : State) : TableStands s s.enterBackup := by
  refine .of_fields rfl rfl rfl fun c => ?_
  cases c with
  | zero => rfl
  | succ n => by_cases hn : n < 4 <;> simp [State.enterBackup, State.compAt, hn]

/-- Raising a kind on a condition moves no block. -/
theorem unmoved_raise_ite (b : Bool) (k : Kind) (s : State) : Unmoved s (if b then s.raise k else s) := by
  cases b <;> exact ⟨rfl, rfl, rfl, rfl, rfl, rfl, rfl⟩

theorem State.compAt_resample (inp : ReturnInputs) (s : State) (c : Nat) :
    (s.resample inp).compAt c =
      if s.compPresent c then returnCompartment s.now ((inp.doors[c - 1]?).getD false) (s.compAt c) else s.compAt c := by
  rw [State.compAt_congr (t := s.resample inp) (s := s.mapPresentComps fun c k => returnCompartment s.now ((inp.doors[c - 1]?).getD
    false) k) rfl, State.compAt_mapPresentComps]

theorem stands_resample (inp : ReturnInputs) (s : State) : TableStands s (s.resample inp).refreshLines :=
  .of_fields rfl rfl rfl fun c => by
    rw [State.compAt_refreshLines, State.compAt_resample]
    split
    · exact returnCompartment_capacity _ _ _
    · rfl

theorem TableStands.of_comps_trans {s m t : State} (h : TableStands m t) (ct : m.ct = s.ct) (pt : m.pt = s.pt)
    (present : m.tb.presentCount = s.tb.presentCount) (comps : m.zm.comps = s.zm.comps) : TableStands s t where
  ct := h.ct.trans ct
  pt := h.pt.trans pt
  present := h.present.trans present
  capacity c := by
    have := h.capacity c
    rwa [State.compAt_congr comps, State.membersOf_congr (congrArg Table.members ct)] at this

theorem stands_mainReturn (inp : ReturnInputs) (s : State) : TableStands s (s.mainReturn inp) := by
  unfold State.mainReturn
  extract_lets s1 s2 s3
  obtain ⟨tb, -, zm, pt, ct, -, -⟩ : Unmoved s2 s3 := unmoved_raise_ite _ _ _
  exact ((stands_resample inp s3).of_comps_trans ct pt (congrArg TimeBase.presentCount tb)
    (congrArg ZoneMonitor.comps zm)).of_comps_trans rfl rfl rfl rfl

theorem stands_pinReset (csnLow : Bool) (s : State) : TableStands s (s.pinReset csnLow) :=
  .of_comps rfl rfl rfl rfl

theorem stands_endRetry (found : Bool) (s : State) : TableStands s (s.endRetry found) := by
  cases found <;> exact .of_comps rfl rfl rfl rfl

theorem stands_closeGate_formZones (s : State) : TableStands s s.closeGate.formZones := by
  have closed : s.closeGate.ct = s.ct ∧ s.closeGate.pt = s.pt ∧ s.closeGate.tb = s.tb ∧ s.closeGate.zm = s.zm := by
    unfold State.closeGate
    dsimp only
    split <;> exact ⟨rfl, rfl, rfl, rfl⟩
  obtain ⟨ct, pt, tb, zm⟩ := closed
  exact .of_comps ct pt (congrArg TimeBase.presentCount tb)
    (show s.closeGate.zm.comps = _ from congrArg ZoneMonitor.comps zm)

theorem stands_modifyComp {f : Compartment → Compartment} (hf : ∀ k, (f k).capacity = k.capacity) (c : Nat)
    (s : State) : TableStands s (s.modifyComp c f) :=
  .of_fields rfl rfl rfl (State.capacity_modifyComp hf s c)

theorem stands_openDoor (c : Nat) (s : State) : TableStands s (s.openDoor c) := by
  obtain ⟨tb, -, zm, pt, ct, -, -⟩ : Unmoved s _ := unmoved_raise_ite (openOverruns (s.compAt c)) .doorOverrun s
  exact (stands_modifyComp (f := fun k => { k with debouncing := false }.openDoor s.now) (fun _ => rfl) c
    _).of_comps_trans ct pt (congrArg TimeBase.presentCount tb) (congrArg ZoneMonitor.comps zm)

theorem stands_defrostRise (s : State) : TableStands s s.defrostRise := by
  have episodes : ∀ d, (((s.setDefrost true).mapPresentComps fun _ k =>
      if k.inMask then k.startEpisode s.now else k).compAt d).capacity = (s.compAt d).capacity := fun d => by
    rw [State.capacity_mapPresentComps fun _ k => by split <;> rfl, State.compAt_setDefrost]
  unfold State.defrostRise
  dsimp only
  split
  · exact .of_fields rfl rfl rfl fun d => by rw [State.compAt_raise]; exact episodes d
  · exact .of_fields rfl rfl rfl episodes

theorem stands_defrostFall (s : State) :
    TableStands s ((s.setDefrost false).mapPresentComps fun _ k => k.endEpisode s.now) :=
  .of_fields rfl rfl rfl fun d => by
    rw [State.capacity_mapPresentComps fun _ _ => Compartment.endEpisode_capacity _ _, State.compAt_setDefrost]

theorem stands_expireHold (z : Nat) (s : State) : TableStands s (s.expireHold z) := .of_comps rfl rfl rfl rfl

theorem stands_expireDwell (c : Nat) (s : State) : TableStands s (s.expireDwell c) :=
  .of_fields rfl rfl rfl fun d => by
    rw [State.expireDwell, State.compAt_raise, State.capacity_modifyComp (by intro k; rfl)]

theorem stands_expireAllowance (c : Nat) (s : State) : TableStands s (s.expireAllowance c) :=
  .of_fields rfl rfl rfl fun d => by
    rw [State.expireAllowance, State.compAt_raise, State.capacity_modifyComp (by intro k; rfl)]

end Sys2Proof.Machine

namespace Sys2Proof.Machine

/-! ### Rewriting a record in its slot -/

theorem Standing.of_blocks {s t : State} (tb : t.tb = s.tb) (zm : t.zm = s.zm) : Standing s t :=
  ⟨congrArg TimeBase.presentCount tb, fun c => by rw [State.compAt_congr (congrArg ZoneMonitor.comps zm)]⟩

theorem Custody.listing_chargedAt (t : Nat) (c : Custody) : (c.chargedAt t).listing = c.listing := by
  cases c <;> rfl

theorem Record.settle_listing (g : Readings) (t : Nat) (r : Record) :
    (r.settle g t).1.custody.listing = r.custody.listing := by
  rcases r.settle_custody g t with stands | charged
  · rw [stands]
  · rw [charged, Custody.listing_chargedAt]

theorem effect_visit {s : State} {p : Pass} (flight : s.ae = some p) : Effect s (s.visit p) := by
  obtain ⟨tb, -, zm, pt, index, members, stage, -⟩ := s.settle_stands p.next p.tick
  have stand : Standing s (s.visit p) := .of_blocks tb zm
  cases hr : s.record? p.next with
  | none =>
    have idle : s.settle p.next p.tick = s := by simp only [State.settle, hr]
    exact .stands (.of_comps (show (s.settle p.next p.tick).ct = s.ct by rw [idle]) pt stand.present (congrArg ZoneMonitor.comps zm))
  | some r =>
    have record : ∀ k, (s.visit p).record? k = (s.settle p.next p.tick).record? k := fun _ => rfl
    exact .rewritten p.next r _ hr (.visited flight) (r.settle_listing _ _)
      (by rw [record, State.record?_settle]; simp [hr])
      (fun k hk => by rw [record, State.record?_settle, if_neg hk]) index members stage pt stand

theorem effect_lapse {s : State} {h : Nat} (due : s.lapseDue h = true) : Effect s (s.lapse h) := by
  obtain ⟨-, r, f, hr, hc, -⟩ := (s.lapseDue_iff h).1 due
  obtain ⟨here, others, -, index, members, stage, tb, -, zm, pt, -⟩ := State.lapse_spec hr hc
  exact .rewritten h r _ hr (.thawed hc) (by
    show (((r.thaw _ _ _ _).evaluate _).1).custody.listing = _
    rw [Record.evaluate_custody, hc]; rfl) here others index members stage pt (.of_blocks tb zm)

/-! ### What the checks of a command say -/

theorem Record.isLoaded_iff (r : Record) : r.isLoaded = true ↔ ∃ c t, r.custody = .loaded c t := by
  cases hc : r.custody <;> simp [Record.isLoaded, hc]

theorem Record.isStaged_iff (r : Record) : r.isStaged = true ↔ ∃ t, r.custody = .staged t := by
  cases hc : r.custody <;> simp [Record.isStaged, hc]

theorem Record.isHandover_iff (r : Record) : r.isHandover = true ↔ ∃ f d, r.custody = .handover f d := by
  cases hc : r.custody <;> simp [Record.isHandover, hc]

theorem Record.isClosed_iff (r : Record) : r.isClosed = true ↔ ∃ k, r.custody = .closed k := by
  cases hc : r.custody <;> simp [Record.isClosed, hc]

/-- A LOADED or STAGED record has a last charge (R70). -/
theorem Record.lastCharge?_of_active {r : Record} (h : r.isLoaded = true ∨ r.isStaged = true) :
    ∃ since, r.lastCharge? = some since := by
  rcases h with h | h
  · obtain ⟨c, t, hc⟩ := r.isLoaded_iff.1 h
    exact ⟨t, by simp [Record.lastCharge?, hc]⟩
  · obtain ⟨t, hc⟩ := r.isStaged_iff.1 h
    exact ⟨t, by simp [Record.lastCharge?, hc]⟩

/-- WRONG_STATE passes exactly for a record in an accepted state. -/
theorem State.wrongState_eq_false {s : State} {h : Byte} {accepts : Record → Bool} :
    s.wrongState h accepts = false ↔ ∃ r, s.record? h.toNat = some r ∧ accepts r = true := by
  cases hr : s.record? h.toNat <;> simp [State.wrongState, hr]

theorem State.compPresent_iff {s : State} {c : Nat} :
    s.compPresent c = true ↔ 1 ≤ c ∧ c ≤ s.tb.presentCount ∧ c ≤ 4 := by
  simp [State.compPresent]

/-- The lowest FREE slot is a FREE slot of the table (R75). -/
theorem State.lowestFree?_spec {s : State} {h : Nat} (free : s.lowestFree? = some h) :
    s.record? h = none ∧ h < 48 := by
  unfold State.lowestFree? at free
  exact ⟨by simpa using List.find?_some free, List.mem_range.1 (List.mem_of_find?_eq_some free)⟩

/-! ### The commands that move a record -/

theorem effect_recall {s : State} {h f d : Nat} {r : Record} (hr : s.record? h = some r)
    (hc : r.custody = .handover f d) : Effect s (s.thaw h s.now .recalled) := by
  obtain ⟨here, others, -, index, members, stage, tb, -, zm, pt, -⟩ := State.thaw_spec s.now .recalled hr hc
  exact .rewritten h r (s.thawedRecord .recalled f (((r.thaw s.tb.degraded s.tb.lastDegraded f s.now).evaluate
    (s.profileAt r.profile)).1.marks.lapsed) r) hr (.thawed hc) (by
      show (((r.thaw _ _ _ _).evaluate _).1).custody.listing = _
      rw [Record.evaluate_custody, hc]; rfl) here others index members stage pt (.of_blocks tb zm)

/-- A carried-out move: the record settles, folds its step and joins the list there is room in (R85). -/
theorem effect_carryOut {s : State} {h : Nat} {r : Record} {code : StepCode} {after : Nat → Custody}
    (hr : s.record? h = some r) (active : r.isLoaded = true ∨ r.isStaged = true) (move : Move after)
    (room : ∀ t, s.Room (after t)) : Effect s (s.carryOut h code after) := by
  obtain ⟨since, charged⟩ := Record.lastCharge?_of_active active
  obtain ⟨here, others, members, stage, -, index, tb, -, zm, pt, -⟩ := State.carryOut_spec code after hr
  have below : ∀ d n t, after t = .loaded d n → d ≠ 5 := by
    intro d n t eq
    have := room t
    rw [eq] at this
    cases this with
    | member present _ =>
      obtain ⟨-, -, le⟩ := State.compPresent_iff.1 present
      omega
  exact .moved h r (s.movedRecord code after r) hr (.moved charged move) (room _) here others index members
    (stage fun d n => below d n _) pt (.of_blocks tb zm)

theorem effect_handOff {s : State} {h : Nat} {r : Record} (hr : s.record? h = some r) (staged : r.isStaged = true) :
    Effect s (s.handOffEffect h).1 := by
  have slot := State.lt_of_record? hr
  have settled : (s.settle h s.now).record? h = some (r.settle (s.readings r) s.now).1 := by
    simp [State.record?_settle, hr]
  obtain ⟨tb, -, zm, pt, index, members, stage, -⟩ := s.settle_stands h s.now
  have reached : (s.handOffEffect h).1 = (s.settle h s.now).setRecord h (some (s.frozenRecord r)) := by
    simp only [State.handOffEffect, settled, State.frozenRecord]
  obtain ⟨t, hc⟩ := r.isStaged_iff.1 staged
  refine .rewritten h r (s.frozenRecord r) hr (.frozen staged) (by rw [hc]; rfl) ?_ (fun k hk => ?_) ?_ ?_ ?_ ?_ ?_
  · rw [reached, State.record?_setRecord, if_pos ⟨rfl, slot⟩]
  · rw [reached, State.record?_setRecord, if_neg (by simp [hk]), State.record?_settle, if_neg hk]
  · rw [reached]; exact index
  · rw [reached]; exact members
  · rw [reached]; exact stage
  · rw [reached]; exact pt
  · rw [reached]; exact .of_blocks tb zm

theorem effect_confirm {s : State} {h : Nat} {r : Record} (hr : s.record? h = some r) (frozen : r.isHandover = true) :
    Effect s (s.confirmEffect h).1 := by
  have slot := State.lt_of_record? hr
  have reached : (s.confirmEffect h).1 = (s.setRecord h (some r.confirmed)).leaveLists h := by
    simp only [State.confirmEffect, hr, Record.confirmed]
  refine .moved h r r.confirmed hr (.confirmed frozen) .unlisted ?_ (fun k hk => ?_) ?_ (fun c _ h4 => ?_) ?_ ?_ ?_
  · rw [reached, State.record?_leaveLists, State.record?_setRecord, if_pos ⟨rfl, slot⟩]
  · rw [reached, State.record?_leaveLists, State.record?_setRecord, if_neg (by simp [hk])]
  · rw [reached]; rfl
  · have elsewhere : c ≠ r.confirmed.place := by show c ≠ 6; omega
    rw [reached, State.membersOf_leaveLists, State.membersOf_setRecord, if_neg elsewhere, List.append_nil]
  · have elsewhere : r.confirmed.place ≠ 5 := by show 6 ≠ 5; decide
    rw [reached, State.stage_leaveLists, if_neg elsewhere, List.append_nil]; rfl
  · rw [reached]; rfl
  · rw [reached]; exact .of_blocks rfl rfl

theorem effect_release {s : State} {h : Nat} {r : Record} (hr : s.record? h = some r) (closed : r.isClosed = true) :
    Effect s (s.releaseEffect h).1 := by
  have slot := State.lt_of_record? hr
  have reached : (s.releaseEffect h).1 =
      ((s.removeIndex h).modifyProfile r.profile fun p => { p with useCount := p.useCount - 1 }).setRecord h none := by
    simp only [State.releaseEffect, hr]
  refine .released h r hr closed ?_ (fun k hk => ?_) ?_ ?_ ?_ (fun known => ?_) (fun i hi => ?_) ?_
  · rw [reached, State.record?_setRecord, if_pos ⟨rfl, slot⟩]
  · rw [reached, State.record?_setRecord, if_neg (by simp [hk])]; rfl
  · rw [reached]; rfl
  · rw [reached]; rfl
  · rw [reached]; rfl
  · rw [reached, State.profileAt_setRecord, State.profileAt_modifyProfile, if_pos ⟨rfl, known⟩,
      State.profileAt_removeIndex]
  · rw [reached, State.profileAt_setRecord, State.profileAt_modifyProfile, if_neg (by simp [hi]),
      State.profileAt_removeIndex]
  · rw [reached]; exact .of_blocks rfl rfl

/-! ### The commands that make a record -/

/-- Making a lawful record of a defined profile, with a fresh ID, in a FREE slot and a list with room (R66, R75, R79,
R81). -/
theorem effect_makeRecord {s t : State} {h : Nat} {r : Record} (free : s.lowestFree? = some h)
    (fresh : s.findId? r.id = none) (known : r.profile < 8) (defined : (s.profileAt r.profile).defined = true)
    (lawful : r.lawful) (room : s.Room r.custody) (tb : t.tb = s.tb) (zm : t.zm = s.zm)
    (pt : t.pt = (s.makeRecord h r).pt) (ct : t.ct = (s.makeRecord h r).ct) : Effect s t := by
  obtain ⟨none, slot⟩ := State.lowestFree?_spec free
  obtain ⟨here, others, counted, profiles, index, members, stage, -⟩ := s.makeRecord_spec slot r known
  have record := State.record?_congr (congrArg Table.slots ct)
  have profile := State.profileAt_congr pt
  have below : ∀ d n, r.custody = .loaded d n → d ≠ 5 := by
    intro d n eq
    rw [eq] at room
    cases room with
    | member present _ =>
      obtain ⟨-, -, le⟩ := State.compPresent_iff.1 present
      omega
  exact .made h r none slot fresh known defined lawful room ((record h).trans here)
    (fun k hk => (record k).trans (others k hk)) ((congrArg Table.index ct).trans index)
    (fun c h1 h4 => (State.membersOf_congr (congrArg Table.members ct) c).trans (members c h1 h4))
    ((congrArg Table.stage ct).trans (stage below)) ((profile _).trans counted)
    (fun i hi => (profile i).trans (profiles i hi)) (.of_blocks tb zm)

theorem loadedRecord_lawful (id : Word32) (profile compartment now : Nat) :
    (loadedRecord id profile compartment now).lawful := by
  refine ⟨?_, ?_, ?_, ?_, ?_, ?_, fun b hb => ?_⟩
  case refine_7 => cases hb
  all_goals exact Nat.zero_le _

/-- A consistent image makes a lawful record: its fields have the widths of R186 and R148 bounds blind seconds and
first-break by custody seconds. -/
theorem adoptedRecord_lawful {b : List Byte} (consistent : imageConsistent b = true) (profile now : Nat) :
    (adoptedRecord b profile now).lawful := by
  simp only [imageConsistent, Bool.and_eq_true, decide_eq_true_eq] at consistent
  obtain ⟨⟨-, blind⟩, first⟩ := consistent
  refine ⟨?_, ?_, ?_, blind, ?_, ?_, fun x hx => ?_⟩
  · exact Nat.le_of_lt_succ (word32At b 20).isLt
  · exact Nat.le_of_lt_succ (word32At b 24).isLt
  · exact Nat.le_of_lt_succ (word32At b 32).isLt
  · exact Nat.le_of_lt_succ (word16At b 42).isLt
  · exact Nat.le_of_lt_succ (byteAt b 41).isLt
  · change imageStatus b = _ at hx
    rw [hx] at first
    exact of_decide_eq_true first

theorem effect_load {s : State} {id : Word32} {prof comp : Byte} (pass : firstRefusal (s.loadChecks id prof comp) = none) :
    Effect s (s.loadEffect id prof comp).1 := by
  simp only [State.loadChecks, firstRefusal_cons_eq_none, firstRefusal_nil, and_true, Bool.or_eq_false_iff,
    decide_eq_false_iff_not, Bool.not_eq_false', Option.isSome_eq_false_iff, Option.isNone_iff_eq_none] at pass
  obtain ⟨-, ⟨known, present⟩, defined, fresh, free, room, -⟩ := pass
  cases hf : s.lowestFree? with
  | none => simp [hf] at free
  | some h =>
    simp only [State.loadEffect, hf]
    exact effect_makeRecord hf fresh (show prof.toNat < 8 by omega) defined (loadedRecord_lawful _ _ _ _)
      (.member present room) rfl rfl rfl rfl

/-- The adoption match is an entry of the table that matches the image in all five values (R68). -/
theorem State.adoptionMatch?_spec {s : State} {b : List Byte} {i : Nat} (found : s.adoptionMatch? b = some i) :
    profileMatches b (s.profileAt i) = true ∧ i < 8 := by
  unfold State.adoptionMatch? at found
  exact ⟨by simpa using List.find?_some found, List.mem_range.1 (List.mem_of_find?_eq_some found)⟩

theorem effect_adopt (s : State) : Effect s s.adoptCommit.1 := by
  unfold State.adoptCommit
  split
  · dsimp only
    split
    · exact .stands (.of_comps rfl rfl rfl rfl)
    · exact .stands (.refl s)
  · rename_i pass
    simp only [State.adoptChecks, firstRefusal_cons_eq_none, firstRefusal_nil, and_true, Bool.not_eq_false',
      Option.isSome_eq_false_iff, Option.isNone_iff_eq_none] at pass
    obtain ⟨-, -, -, consistent, fresh, -, -, room⟩ := pass
    unfold State.adoptEffect
    dsimp only
    split
    next h i hf hm =>
      obtain ⟨matched, known⟩ : profileMatches (bufferBytes s.hu.parts) (s.profileAt i) = true ∧ i < 8 :=
        State.adoptionMatch?_spec hm
      simp only [profileMatches, Bool.and_eq_true] at matched
      obtain ⟨⟨⟨⟨⟨defined, -⟩, -⟩, -⟩, -⟩, -⟩ := matched
      exact effect_makeRecord hf fresh known defined (adoptedRecord_lawful consistent _ _) (.stage room) rfl rfl rfl rfl
    · exact .stands (.refl s)
    · exact .stands (.refl s)

/-! ### The settings of profiles and zones -/

theorem limitsValid_iff (u l : Int) :
    limitsValid u l = true ↔ -400 ≤ u ∧ u ≤ 700 ∧ -400 ≤ l ∧ l ≤ 700 ∧ l < u := by
  simp [limitsValid]

/-- What DEFINE_PROFILE makes of an entry: its five values replaced, the use count standing (R64). -/
def Profile.define (u l : Int) (bh bl ba : Word32) (p : Profile) : Profile :=
  ⟨true, u, l, bh.toNat, bl.toNat, ba.toNat, p.useCount⟩

/-- What CLEAR_PROFILE makes of an entry (R65). -/
def Profile.clear (p : Profile) : Profile := { Profile.undefined with useCount := p.useCount }

theorem Profile.define_lawful {u l : Int} (valid : limitsValid u l = true) (bh bl ba : Word32) (p : Profile) :
    (p.define u l bh bl ba).Lawful := by
  obtain ⟨u1, u2, l1, l2, lu⟩ := (limitsValid_iff u l).1 valid
  refine ⟨fun _ => ⟨u1, u2, l1, l2, lu, ?_, ?_, ?_⟩, by intro no; cases no⟩
  · exact Nat.le_of_lt_succ bh.isLt
  · exact Nat.le_of_lt_succ bl.isLt
  · exact Nat.le_of_lt_succ ba.isLt

theorem Profile.clear_lawful (p : Profile) : p.clear.Lawful :=
  ⟨(by intro yes; cases yes), fun _ => ⟨rfl, rfl, rfl, rfl, rfl⟩⟩

theorem effect_profileWritten {s : State} {i : Nat} {f : Profile → Profile} (unused : ¬0 < (s.profileAt i).useCount)
    (count : ∀ p, (f p).useCount = p.useCount) (lawful : ∀ p, (f p).Lawful) : Effect s (s.modifyProfile i f) :=
  .profileWritten i f (by omega) count lawful rfl rfl (.of_blocks rfl rfl)

/-- A zone setting that passed its check: the new capacity is not below the member count (R39). -/
theorem stands_setZone {s : State} {z : Nat} {f : Zone → Zone} {g : Compartment → Compartment}
    (room : z ≠ 5 → ∀ k, (s.membersOf z).length ≤ (g k).capacity) :
    TableStands s ((s.modifyZone z f).modifyComp z g) := by
  refine ⟨rfl, rfl, rfl, fun c => ?_⟩
  rw [State.compAt_modifyComp]
  split
  next here =>
    obtain ⟨rfl, -, h4⟩ := here
    exact .inr (room (by omega) _)
  next => exact .inl (by rw [State.compAt_modifyZone])

/-! ### Every command and event -/

theorem effect_coldStart (inp : ColdInputs) (s : State) : Effect s (s.coldStart inp) :=
  .emptied rfl rfl (by show strapCount _ _ ≤ 4; cases inp.zsel1 <;> cases inp.zsel0 <;> decide)

theorem effect_unpowered (s : State) : Effect s s.unpowered := .emptied rfl rfl (by show 4 ≤ 4; decide)

/-- Whatever the command or event, what it takes from `s` to its next state is one of the effects. -/
theorem exec_takes (i : Instr) (s : State) : ∃ t, exec i s = .next t ∧ Takes s t := by
  cases i with
  | coldStart inp =>
    refine ⟨_, rfl, ?_⟩
    split
    · exact .of_effect (effect_coldStart inp s)
    · exact .of_unmoved (.refl s)
  | vbakLoss =>
    simp only [exec, execVbakLoss]
    split
    · exact ⟨_, rfl, .of_unmoved (.refl s)⟩
    · exact ⟨_, rfl, .of_stands (.of_comps rfl rfl rfl rfl)⟩
    · exact ⟨_, rfl, .of_effect (effect_unpowered s)⟩
  | vbakRestore =>
    simp only [exec, execVbakRestore]
    split
    · exact ⟨_, rfl, .of_unmoved (.refl s)⟩
    · exact ⟨_, rfl, .of_stands (.of_comps rfl rfl rfl rfl)⟩
    · exact ⟨_, rfl, .of_unmoved (.refl s)⟩
  | vsupLoss =>
    simp only [exec, execVsupLoss]
    split
    · exact ⟨_, rfl, .of_unmoved (.refl s)⟩
    · exact ⟨_, rfl, .of_unmoved (.refl s)⟩
    · refine ⟨_, rfl, ?_⟩
      split
      · exact .effect s _ (.refl s) (.stands (stands_enterBackup s)) (unmoved_evaluateLines _)
      · exact .of_effect (effect_unpowered s)
  | vsupReturn inp =>
    simp only [exec, execVsupReturn]
    split
    · exact ⟨_, rfl, .of_unmoved (.refl s)⟩
    · exact ⟨_, rfl, .of_unmoved (.refl s)⟩
    · exact ⟨_, rfl, .of_stands (stands_mainReturn inp s)⟩
  | resetnLow =>
    refine ⟨_, rfl, ?_⟩
    split
    · exact .of_stands (.of_comps rfl rfl rfl rfl)
    · exact .of_unmoved (.refl s)
  | pinReset lowMicros csnLow =>
    refine ⟨_, rfl, ?_⟩
    split
    · split
      · exact .of_stands (stands_pinReset csnLow s)
      · dsimp only
        split
        · exact .of_stands (.of_comps rfl rfl rfl rfl)
        · exact .of_stands (.of_comps rfl rfl rfl rfl)
    · exact .of_unmoved (.refl s)
  | retryWindowEnd found => exact ⟨_, rfl, takes_event fun _ => .stands (stands_endRetry found s)⟩
  | crystalStop => exact ⟨_, rfl, takes_event fun _ => .stands (.of_comps rfl rfl rfl rfl)⟩
  | secondEvent rc =>
    refine ⟨_, rfl, ?_⟩
    unfold State.event
    split
    · exact .expiries s (s.beginSecond rc) (.refl s) (.of_comps rfl rfl
        (by rw [(s.takeExpiries_stands).1]; rfl) rfl) (unmoved_evaluateLines _)
    · exact .of_unmoved (.refl s)
  | scan => exact ⟨_, rfl, takes_event fun _ => .stands (.of_comps rfl rfl rfl rfl)⟩
  | probeRisingEdge p => exact ⟨_, rfl, takes_event fun _ => .stands (.of_comps rfl rfl rfl rfl)⟩
  | gateClose => exact ⟨_, rfl, takes_event fun _ => .stands (stands_closeGate_formZones s)⟩
  | tick => exact ⟨_, rfl, takes_event fun _ => .stands (.of_comps rfl rfl rfl rfl)⟩
  | tickPassVisit =>
    simp only [exec, execTickPassVisit]
    split
    · exact ⟨_, rfl, .of_unmoved (.refl s)⟩
    · exact ⟨_, rfl, takes_event fun _ => effect_visit ‹_›⟩
  | holdExpiry z => exact ⟨_, rfl, takes_event fun _ => .stands (stands_expireHold z s)⟩
  | doorInputChange c level => exact ⟨_, rfl, takes_event fun _ => .stands (stands_modifyComp (by intro k; rfl) c s)⟩
  | doorOpen c => exact ⟨_, rfl, takes_event fun _ => .stands (stands_openDoor c s)⟩
  | doorClose c => exact ⟨_, rfl, takes_event fun _ => .stands (stands_modifyComp (by intro k; rfl) c s)⟩
  | dwellExpiry c => exact ⟨_, rfl, takes_event fun _ => .stands (stands_expireDwell c s)⟩
  | defrostInputChange level => exact ⟨_, rfl, takes_event fun _ => .stands (.of_comps rfl rfl rfl rfl)⟩
  | defrostRise => exact ⟨_, rfl, takes_event fun _ => .stands (stands_defrostRise s)⟩
  | defrostFall => exact ⟨_, rfl, takes_event fun _ => .stands (stands_defrostFall s)⟩
  | allowanceExpiry c => exact ⟨_, rfl, takes_event fun _ => .stands (stands_expireAllowance c s)⟩
  | deadlineLapse h => exact ⟨_, rfl, takes_event fun due => effect_lapse due⟩
  | pulseEnd e => exact ⟨_, rfl, takes_event fun _ => .stands (.of_comps rfl rfl rfl rfl)⟩
  | frameDiscarded w =>
    refine ⟨_, rfl, .of_unmoved ?_⟩
    split_ifs <;> exact ⟨rfl, rfl, rfl, rfl, rfl, rfl, rfl⟩
  | shortTransaction b =>
    refine ⟨_, rfl, .of_unmoved ?_⟩
    split_ifs <;> exact ⟨rfl, rfl, rfl, rfl, rfl, rfl, rfl⟩
  | responseRead n =>
    refine ⟨_, rfl, .of_unmoved ?_⟩
    split_ifs <;> exact ⟨rfl, rfl, rfl, rfl, rfl, rfl, rfl⟩
  | responseReady =>
    simp only [exec, execResponseReady]
    split <;> exact ⟨_, rfl, .of_unmoved ⟨rfl, rfl, rfl, rfl, rfl, rfl, rfl⟩⟩
  | unknownCommand code fr => exact ⟨_, rfl, takes_receive s fun m => .stands (.refl m)⟩
  | status fr =>
    refine ⟨_, rfl, ?_⟩
    rcases s.receiveCommand_cases 0x01 fr fun s => (s.takeExpiries, okReply s.takeExpiries.statusPayload)
      with still | ⟨-, carried⟩
    · exact .of_unmoved still
    · rw [carried]
      exact .expiries _ _ (unmoved_takeTransaction _ s) (.refl _) (unmoved_answered _ _)
  | attention fr => exact ⟨_, rfl, takes_receive s fun m => .stands (.of_comps rfl rfl rfl rfl)⟩
  | find fr id =>
    refine ⟨_, rfl, takes_receive s fun m => .stands ?_⟩
    split <;> exact .refl m
  | view fr h => exact ⟨_, rfl, takes_command s fun m _ => .stands (.refl m)⟩
  | survey fr f c v h => exact ⟨_, rfl, takes_command s fun m _ => .stands (.refl m)⟩
  | zone fr z => exact ⟨_, rfl, takes_command s fun m _ => .stands (.refl m)⟩
  | door fr c => exact ⟨_, rfl, takes_command s fun m _ => .stands (stands_modifyComp (by intro k; rfl) c.toNat m)⟩
  | probe fr p => exact ⟨_, rfl, takes_command s fun m _ => .stands (.refl m)⟩
  | profile fr i => exact ⟨_, rfl, takes_command s fun m _ => .stands (.refl m)⟩
  | fixTick fr v => exact ⟨_, rfl, takes_command s fun m _ => .stands (.of_comps rfl rfl rfl rfl)⟩
  | setProbe fr p z zero gain => exact ⟨_, rfl, takes_command s fun m _ => .stands (.of_comps rfl rfl rfl rfl)⟩
  | setZone fr z lag hold cap il dwell a mx sp =>
    refine ⟨_, rfl, takes_command s fun m pass => .stands (stands_setZone fun hz k => ?_)⟩
    simp only [firstRefusal_cons_eq_none, Bool.or_eq_false_iff, Bool.and_eq_false_iff, bne_eq_false_iff_eq, hz,
      false_or, compSettingsOutOfRange, decide_eq_false_iff_not, Nat.not_lt] at pass
    obtain ⟨⟨-, -, room⟩, -⟩ := pass
    exact room
  | setDefrostMask fr mask =>
    exact ⟨_, rfl, takes_command s fun m _ => .stands (.of_fields rfl rfl rfl
      (State.capacity_mapPresentComps (fun _ _ => Compartment.applyMask_capacity _ _ _) m))⟩
  | setHandover fr w => exact ⟨_, rfl, takes_command s fun m _ => .stands (.of_comps rfl rfl rfl rfl)⟩
  | setAlert fr l c md => exact ⟨_, rfl, takes_command s fun m _ => .stands (.of_comps rfl rfl rfl rfl)⟩
  | ackAlert fr l => exact ⟨_, rfl, takes_command s fun m _ => .stands (.of_comps rfl rfl rfl rfl)⟩
  | defineProfile fr i u l bh bl ba =>
    refine ⟨_, rfl, takes_command s fun m pass => ?_⟩
    simp only [firstRefusal_cons_eq_none, Bool.or_eq_false_iff, Bool.not_eq_false', decide_eq_false_iff_not] at pass
    obtain ⟨⟨-, valid⟩, unused, -⟩ := pass
    exact effect_profileWritten unused (fun _ => rfl) (Profile.define_lawful valid bh bl ba)
  | clearProfile fr i =>
    refine ⟨_, rfl, takes_command s fun m pass => ?_⟩
    simp only [firstRefusal_cons_eq_none, decide_eq_false_iff_not] at pass
    obtain ⟨-, unused, -⟩ := pass
    exact effect_profileWritten unused (fun _ => rfl) Profile.clear_lawful
  | load fr id p c => exact ⟨_, rfl, takes_command s fun m pass => effect_load pass⟩
  | shift fr h id e d =>
    refine ⟨_, rfl, takes_command s fun m pass => ?_⟩
    simp only [State.shiftChecks, State.addressChecks, List.cons_append, List.nil_append, firstRefusal_cons_eq_none,
      Bool.or_eq_false_iff, Bool.not_eq_false', State.wrongState_eq_false] at pass
    obtain ⟨⟨-, -, present⟩, -, ⟨r, hr, loaded⟩, -, -, -, room, -⟩ := pass
    exact effect_carryOut hr (.inl loaded) (.toCompartment d.toNat) fun _ => .member present room
  | stage fr h id e =>
    refine ⟨_, rfl, takes_command s fun m pass => ?_⟩
    simp only [State.stageChecks, State.addressChecks, List.cons_append, List.nil_append, firstRefusal_cons_eq_none,
      State.wrongState_eq_false] at pass
    obtain ⟨-, -, ⟨r, hr, loaded⟩, -, room, -⟩ := pass
    exact effect_carryOut hr (.inl loaded) .toStage fun _ => .stage room
  | restow fr h id c =>
    refine ⟨_, rfl, takes_command s fun m pass => ?_⟩
    simp only [State.restowChecks, State.addressChecks, List.cons_append, List.nil_append, firstRefusal_cons_eq_none,
      Bool.or_eq_false_iff, Bool.not_eq_false', State.wrongState_eq_false] at pass
    obtain ⟨⟨-, present⟩, -, ⟨r, hr, staged⟩, room, -⟩ := pass
    exact effect_carryOut hr (.inr staged) (.toCompartment c.toNat) fun _ => .member present room
  | deliver fr h id =>
    refine ⟨_, rfl, takes_command s fun m pass => ?_⟩
    simp only [State.addressChecks, List.cons_append, List.nil_append, firstRefusal_cons_eq_none,
      State.wrongState_eq_false] at pass
    obtain ⟨-, -, ⟨r, hr, staged⟩, -⟩ := pass
    exact effect_carryOut hr (.inr staged) (.closing .delivered) fun _ => .unlisted
  | writeOff fr h id =>
    refine ⟨_, rfl, takes_command s fun m pass => ?_⟩
    simp only [State.addressChecks, List.cons_append, List.nil_append, firstRefusal_cons_eq_none,
      State.wrongState_eq_false, Bool.or_eq_true] at pass
    obtain ⟨-, -, ⟨r, hr, active⟩, -⟩ := pass
    exact effect_carryOut hr active (.closing .writtenOff) fun _ => .unlisted
  | release fr h id =>
    refine ⟨_, rfl, takes_command s fun m pass => ?_⟩
    simp only [State.addressChecks, List.cons_append, List.nil_append, firstRefusal_cons_eq_none,
      State.wrongState_eq_false] at pass
    obtain ⟨-, -, ⟨r, hr, closed⟩, -⟩ := pass
    exact effect_release hr closed
  | handOff fr h id =>
    refine ⟨_, rfl, takes_command s fun m pass => ?_⟩
    simp only [State.addressChecks, List.cons_append, List.nil_append, firstRefusal_cons_eq_none,
      State.wrongState_eq_false] at pass
    obtain ⟨-, -, ⟨r, hr, staged⟩, -⟩ := pass
    exact effect_handOff hr staged
  | exportPart fr h id k => exact ⟨_, rfl, takes_command s fun m _ => .stands (.refl m)⟩
  | confirm fr h id =>
    refine ⟨_, rfl, takes_command s fun m pass => ?_⟩
    simp only [State.confirmChecks, State.addressChecks, List.cons_append, List.nil_append, firstRefusal_cons_eq_none,
      State.wrongState_eq_false] at pass
    obtain ⟨-, -, -, ⟨r, hr, frozen⟩, -⟩ := pass
    exact effect_confirm hr frozen
  | recallRecord fr h id =>
    refine ⟨_, rfl, takes_command s fun m pass => ?_⟩
    simp only [State.addressChecks, List.cons_append, List.nil_append, firstRefusal_cons_eq_none,
      State.wrongState_eq_false, Record.isHandover_iff] at pass
    obtain ⟨-, -, ⟨r, hr, f, d, hc⟩, -⟩ := pass
    exact effect_recall hr hc
  | adoptPart fr k bytes => exact ⟨_, rfl, takes_command s fun m _ => .stands (.of_comps rfl rfl rfl rfl)⟩
  | adoptCommit fr => exact ⟨_, rfl, takes_receive s effect_adopt⟩
  | adoptAbort fr => exact ⟨_, rfl, takes_receive s fun m => .stands (.of_comps rfl rfl rfl rfl)⟩

end Sys2Proof.Machine

/-! The invariants of the table (O4 to O8, O12): each effect keeps them, so each step does. -/

namespace Sys2Proof.Machine

/-! ### From effects to steps -/

/-- A step takes the front of the queue, and an idle one nothing. -/
theorem step_takes {s t : State} (h : step s = .next t) : Takes s t := by
  unfold step at h
  split at h
  · cases h
    exact .of_unmoved (.refl s)
  next c rest _ =>
    obtain ⟨u, taken, takes⟩ := exec_takes c { s with pending := rest }
    rw [taken] at h
    cases h
    have popped : Unmoved s { s with pending := rest } := ⟨rfl, rfl, rfl, rfl, rfl, rfl, rfl⟩
    cases takes with
    | effect m v before effect after => exact .effect m v (popped.trans before) effect after
    | expiries m v before stand after => exact .expiries m v (popped.trans before) stand after

/-- What every effect keeps, every step keeps. -/
theorem step_keeps {P : State → Prop} (effect : ∀ {s t : State}, Effect s t → P s → P t) {s t : State} (hs : P s)
    (h : step s = .next t) : P t := by
  have still : ∀ {s t : State}, Unmoved s t → P s → P t := fun un => effect (.stands (.of_unmoved un))
  cases step_takes h with
  | effect m u before taken after => exact still after (effect taken (still before hs))
  | expiries m u before stand after =>
    have expired : P m.takeExpiries := State.takeExpiries_induct (P := P)
      (fun z s hP _ => effect (.stands (stands_expireHold z s)) hP)
      (fun c s hP _ => effect (.stands (stands_expireDwell c s)) hP)
      (fun c s hP _ => effect (.stands (stands_expireAllowance c s)) hP)
      (fun k s hP due => effect (effect_lapse due) hP) (still before hs)
    exact still after (effect (.stands stand) expired)

/-! ### Where a record after a step comes from -/

/-- The expiries leave a record as it stood, or thaw it with the lapsed mark (R142). -/
theorem State.record?_takeExpiries (s : State) (k : Nat) :
    s.takeExpiries.record? k = s.record? k ∨
      ∃ r f d, s.record? k = some r ∧ r.custody = .handover f d ∧
        s.takeExpiries.record? k = some (s.thawedRecord .lapse f true r) := by
  have goes : ∀ u : State, u.tb = s.tb → u.pt = s.pt → ∀ h f d r, u.record? h = some r → r.custody = .handover f d →
      (u.lapse h).record? h = some (s.thawedRecord .lapse f true r) := by
    intro u tb pt h f d r hr hc
    rw [(State.lapse_spec hr hc).1]
    simp only [State.thawedRecord, State.now, tb, State.profileAt_congr pt]
  let P : State → Prop := fun u => u.tb = s.tb ∧ u.pt = s.pt ∧
    (u.record? k = s.record? k ∨ ∃ r f d, s.record? k = some r ∧ r.custody = .handover f d ∧
      u.record? k = some (s.thawedRecord .lapse f true r))
  refine (State.takeExpiries_induct (P := P) (fun _ _ hP _ => hP) (fun _ _ hP _ => hP) (fun _ _ hP _ => hP)
    (fun h u hP due => ?_) ⟨rfl, rfl, .inl rfl⟩).2.2
  obtain ⟨tb, pt, origin⟩ := hP
  obtain ⟨-, r, f, hr, hc, -⟩ := (u.lapseDue_iff h).1 due
  obtain ⟨-, others, -, -, -, -, tb', -, -, pt', -⟩ := State.lapse_spec hr hc
  refine ⟨tb'.trans tb, pt'.trans pt, ?_⟩
  by_cases hk : k = h
  · subst hk
    rcases origin with stands | ⟨r0, f0, d0, -, -, thawed⟩
    · exact .inr ⟨r, f, _, stands ▸ hr, hc, goes u tb pt k f _ r hr hc⟩
    · have staged : (s.thawedRecord .lapse f0 true r0).custody = .staged s.now := by
        show (((r0.thaw _ _ _ _).evaluate _).1).custody = _
        rw [Record.evaluate_custody]
        rfl
      rw [hr] at thawed
      rw [Option.some.inj thawed, staged] at hc
      cases hc
  · rw [others k hk]
    exact origin

theorem Effect.origin {s t : State} (e : Effect s t) {k : Nat} {r' : Record} (hr' : t.record? k = some r') :
    (s.record? k = none ∧ r'.lawful) ∨ ∃ r, s.record? k = some r ∧ r.Evolves s r' := by
  have elsewhere : ∀ h, OthersStand h s t → k ≠ h → ∃ r, s.record? k = some r ∧ r.Evolves s r' :=
    fun h others hk => ⟨r', others k hk ▸ hr', .stands⟩
  cases e with
  | stands stand => exact .inr ⟨r', State.record?_congr (congrArg Table.slots stand.ct) k ▸ hr', .stands⟩
  | emptied ct =>
    rw [State.record?_congr (s := State.reset) (congrArg Table.slots ct)] at hr'
    by_cases hk : k < 48 <;> simp [State.record?, State.reset, hk] at hr'
  | profileWritten i f _ _ _ ct => exact .inr ⟨r', State.record?_congr (congrArg Table.slots ct) k ▸ hr', .stands⟩
  | made h r free _ _ _ _ lawful _ here others =>
    by_cases hk : k = h
    · subst hk
      exact .inl ⟨free, Option.some.inj (here.symm.trans hr') ▸ lawful⟩
    · exact .inr (elsewhere h others hk)
  | rewritten h r x before evolves _ here others =>
    by_cases hk : k = h
    · subst hk
      exact .inr ⟨r, before, Option.some.inj (here.symm.trans hr') ▸ evolves⟩
    · exact .inr (elsewhere h others hk)
  | moved h r x before evolves _ here others =>
    by_cases hk : k = h
    · subst hk
      exact .inr ⟨r, before, Option.some.inj (here.symm.trans hr') ▸ evolves⟩
    · exact .inr (elsewhere h others hk)
  | released h r _ _ gone others =>
    by_cases hk : k = h
    · subst hk
      rw [gone] at hr'
      cases hr'
    · exact .inr (elsewhere h others hk)

/-- A record after a step is new and lawful, or what the step makes of the record in its slot. -/
theorem step_origin {s t : State} (h : step s = .next t) {k : Nat} {r' : Record} (hr' : t.record? k = some r') :
    ∃ m, Unmoved s m ∧ ((s.record? k = none ∧ r'.lawful) ∨ ∃ r, s.record? k = some r ∧ r.Evolves m r') := by
  have same : ∀ {a b : State}, Unmoved a b → b.record? k = a.record? k := fun un =>
    State.record?_congr (congrArg Table.slots un.2.2.2.2.1) k
  cases step_takes h with
  | effect m u before effect after =>
    rw [same after] at hr'
    rw [← same before]
    exact ⟨m, before, effect.origin hr'⟩
  | expiries m u before stand after =>
    rw [same after, State.record?_congr (congrArg Table.slots stand.ct) k] at hr'
    rw [← same before]
    refine ⟨m, before, .inr ?_⟩
    rcases m.record?_takeExpiries k with stands | ⟨r, f, d, hr, hc, thawed⟩
    · exact ⟨r', stands ▸ hr', .stands⟩
    · rw [thawed] at hr'
      cases hr'
      exact ⟨r, hr, .thawed hc⟩

/-! ### O12 -/

theorem Record.Evolves.worsens {s : State} {r r' : Record} (e : r.Evolves s r') (h : r.lawful) : r.Worsens r' := by
  have settled := r.settle_worsens (s.readings r) s.now h
  cases e with
  | stands => exact .refl r
  | visited => exact r.settle_worsens _ _ h
  | moved =>
    obtain ⟨a, b, c, d, e, f, g, i, j, k, l, m⟩ := settled
    exact ⟨a, b, c, d, e, f, g, i, j, k, l, m⟩
  | frozen =>
    obtain ⟨a, b, c, d, e, f, g, i, j, k, l, m⟩ := settled
    refine ⟨a, b, c, d, e, f, g, ?_, j, k, l, m⟩
    obtain ⟨-, -, -, -, -, few, -⟩ := h
    have kept := (r.settle_stands (s.readings r) s.now).2.2.1
    show _ ≤ min ((r.settle (s.readings r) s.now).1.handOffs + 1) 255
    omega
  | confirmed => exact ⟨rfl, rfl, le_rfl, le_rfl, le_rfl, le_rfl, le_rfl, le_rfl, le_rfl, fun _ hb => hb, rfl, fun ht => ht⟩
  | thawed =>
    obtain ⟨a, b, c, d, e, f, g, i, j, k, l, m⟩ :=
      (r.thaw_worsens s.tb.degraded s.tb.lastDegraded _ s.now h).trans (Record.evaluate_worsens (s.profileAt r.profile) _)
    exact ⟨a, b, c, d, e, f, g, i, j, k, l, m⟩

/-- Settles O12: a record that stays evolves, and every way it can evolve only worsens it. -/
theorem recordsOnlyWorsen : Obligations.RecordsOnlyWorsen := by
  intro s t h r r' lawful stepped hr hr'
  obtain ⟨m, -, ⟨free, -⟩ | ⟨r0, hr0, evolves⟩⟩ := step_origin stepped hr'
  · rw [hr] at free
    cases free
  · obtain rfl : r0 = r := Option.some.inj (hr0.symm.trans hr)
    obtain ⟨a, b, c, d, e, f, g, i, j, k, l, n⟩ := evolves.worsens (lawful h r0 hr)
    exact ⟨a, b, c, d, e, f, g, i, j, k, l, n⟩

/-! ### O8 -/

theorem State.measured.bounded {s : State} (measured : s.measured) (z : Nat) :
    (s.zoneAt z).warm ≤ 700 ∧ -400 ≤ (s.zoneAt z).cold := by
  by_cases hz : 1 ≤ z ∧ z ≤ 5
  · obtain ⟨-, -, -, -, -, warm, cold, -⟩ := measured.2 z hz.1 hz.2
    exact ⟨warm, cold⟩
  · have outside : s.zoneAt z = Zone.initial := by
      cases z with
      | zero => rfl
      | succ n => simp [State.zoneAt, show ¬n < 5 by omega]
    rw [outside]
    decide

theorem State.profilesLawful.limits {s : State} (lawful : s.profilesLawful) (i : Nat) :
    -400 ≤ (s.profileAt i).upper ∧ (s.profileAt i).lower ≤ 700 := by
  by_cases hi : i < 8
  · obtain ⟨defined, undefined⟩ := lawful i hi
    cases hd : (s.profileAt i).defined with
    | true =>
      obtain ⟨upper, -, -, lower, -⟩ := defined hd
      exact ⟨upper, lower⟩
    | false =>
      obtain ⟨upper, lower, -⟩ := undefined hd
      rw [upper, lower]
      decide
  · have outside : s.profileAt i = Profile.undefined := by simp [State.profileAt, hi]
    rw [outside]
    decide

theorem Compartment.raiseInForce_nonneg (c : Compartment) : 0 ≤ c.raiseInForce := by
  unfold Compartment.raiseInForce
  split <;> omega

/-- With measurements in range and lawful profiles every settle reads bounded figures. -/
theorem State.readings_bounded {s : State} (measured : s.measured) (lawful : s.profilesLawful) (r : Record) :
    (s.readings r).Bounded := by
  obtain ⟨warm, cold⟩ := measured.bounded r.place
  obtain ⟨upper, lower⟩ := lawful.limits r.profile
  refine ⟨warm, cold, ?_, upper, lower⟩
  simp only [State.readings]
  split
  · exact Compartment.raiseInForce_nonneg _
  · exact le_rfl

theorem Record.Evolves.lawful {s : State} {r r' : Record} (e : r.Evolves s r') (bounded : (s.readings r).Bounded)
    (h : r.lawful) : r'.lawful := by
  have settled := Record.settle_lawful s.now bounded h
  cases e with
  | stands => exact h
  | visited => exact Record.settle_lawful _ bounded h
  | moved => exact settled
  | frozen =>
    obtain ⟨upper, lower, custody, blind, peak, -, first⟩ := settled
    exact ⟨upper, lower, custody, blind, peak, Nat.min_le_right _ _, first⟩
  | confirmed => exact h
  | thawed => exact Record.evaluate_lawful (s.profileAt r.profile) (Record.thaw_lawful _ _ _ _ h)

theorem State.profilesLawful_iff (s : State) : s.profilesLawful ↔ ∀ i, i < 8 → (s.profileAt i).Lawful :=
  ⟨fun h i hi => ⟨(h i hi).1, (h i hi).2⟩, fun h i hi => ⟨(h i hi).defined, (h i hi).undefined⟩⟩

theorem Effect.profilesLawful {s t : State} (e : Effect s t) (lawful : s.profilesLawful) : t.profilesLawful := by
  rw [State.profilesLawful_iff] at lawful ⊢
  have stands : t.pt = s.pt → ∀ i, i < 8 → (t.profileAt i).Lawful := fun pt i hi =>
    State.profileAt_congr pt i ▸ lawful i hi
  cases e with
  | stands stand => exact stands stand.pt
  | emptied _ pt =>
    intro i hi
    rw [State.profileAt_congr (s := State.reset) pt]
    have blank : State.reset.profileAt i = Profile.undefined.clear := by simp [State.profileAt, State.reset, hi]; rfl
    exact blank ▸ Profile.clear_lawful _
  | profileWritten i f _ _ written _ pt =>
    intro j hj
    rw [State.profileAt_congr pt, State.profileAt_modifyProfile]
    split
    · exact written _
    · exact lawful j hj
  | made h r _ _ _ known _ _ _ _ _ _ _ _ counted profiles =>
    intro j hj
    by_cases hr : j = r.profile
    · rw [hr, counted]
      exact ⟨(lawful _ known).defined, (lawful _ known).undefined⟩
    · exact profiles j hr ▸ lawful j hj
  | rewritten _ _ _ _ _ _ _ _ _ _ _ pt => exact stands pt
  | moved _ _ _ _ _ _ _ _ _ _ _ pt => exact stands pt
  | released h r _ _ _ _ _ _ _ counted profiles =>
    intro j hj
    by_cases hr : j = r.profile
    · subst hr
      rw [counted hj]
      exact ⟨(lawful _ hj).defined, (lawful _ hj).undefined⟩
    · exact profiles j hr ▸ lawful j hj

theorem State.measured.of_unmoved {s m : State} (h : Unmoved s m) (measured : s.measured) : m.measured := by
  obtain ⟨-, ps, zm, -⟩ := h
  refine ⟨fun p hp => ?_, fun z h1 h5 => ?_⟩
  · rw [State.probeAt_congr (congrArg Scanner.probes ps)]
    exact measured.1 p hp
  · rw [State.zoneAt_congr (congrArg ZoneMonitor.zones zm)]
    exact measured.2 z h1 h5

/-- Settles O8: entries are written lawful; a record is made lawful, or evolves, its excesses bounded by what its settle
reads. -/
theorem stepKeepsRecordsLawful : Obligations.StepKeepsRecordsLawful := by
  refine ⟨fun s t => step_keeps Effect.profilesLawful, fun s t measured profiles records stepped h r' hr' => ?_⟩
  obtain ⟨m, un, ⟨-, new⟩ | ⟨r, hr, evolves⟩⟩ := step_origin stepped hr'
  · exact new
  · have known : m.profilesLawful := (Effect.stands (.of_unmoved un)).profilesLawful profiles
    exact evolves.lawful (State.readings_bounded (measured.of_unmoved un) known r) (records h r hr)

end Sys2Proof.Machine

namespace Sys2Proof.Machine

/-- A record keeps its ID, as it keeps its profile, whatever a step makes of it (R70). -/
theorem Record.Evolves.id_profile {s : State} {r r' : Record} (e : r.Evolves s r') :
    r'.id = r.id ∧ r'.profile = r.profile := by
  have settled := fun t => r.settle_stands (s.readings r) t
  cases e with
  | stands => exact ⟨rfl, rfl⟩
  | visited => exact ⟨(settled _).1, (settled _).2.1⟩
  | moved => exact ⟨(settled s.now).1, (settled s.now).2.1⟩
  | frozen => exact ⟨(settled s.now).1, (settled s.now).2.1⟩
  | confirmed => exact ⟨rfl, rfl⟩
  | @thawed _ f _ _ _ =>
    have evaluated := (r.thaw s.tb.degraded s.tb.lastDegraded f s.now).evaluate_worsens (s.profileAt r.profile)
    exact ⟨evaluated.id, evaluated.profile⟩

/-! ### O4 -/

theorem pairwise_ids_congr {s t : State} {l : List Nat} (h : ∀ k ∈ l, (t.record? k).map Record.id = (s.record? k).map Record.id)
    (asc : l.Pairwise fun a b => ∀ ra rb, s.record? a = some ra → s.record? b = some rb → ra.id.toNat < rb.id.toNat) :
    l.Pairwise fun a b => ∀ ra rb, t.record? a = some ra → t.record? b = some rb → ra.id.toNat < rb.id.toNat := by
  refine asc.imp_of_mem fun {a b} ha hb lt ra rb hra hrb => ?_
  have ia := h a ha
  have ib := h b hb
  rw [hra] at ia
  rw [hrb] at ib
  obtain ⟨sa, hsa, ida⟩ := Option.map_eq_some_iff.1 ia.symm
  obtain ⟨sb, hsb, idb⟩ := Option.map_eq_some_iff.1 ib.symm
  rw [← ida, ← idb]
  exact lt sa sb hsa hsb

/-- An index that stands is as good as before while every slot keeps its ID. -/
theorem State.indexed.of_ids {s t : State} (indexed : s.indexed) (index : t.ct.index = s.ct.index)
    (ids : ∀ k, (t.record? k).map Record.id = (s.record? k).map Record.id) : t.indexed := by
  obtain ⟨exact_, ascending⟩ := indexed
  refine ⟨fun h => ?_, ?_⟩
  · rw [index, exact_, ← Option.isSome_map (f := Record.id) (x := t.record? h), ids, Option.isSome_map]
  · rw [index]
    exact pairwise_ids_congr (fun k _ => ids k) ascending

/-- In an exact index no record holds an ID that the index does not find (R78). -/
theorem State.indexed.findId?_eq_none {s : State} (indexed : s.indexed) {id : Word32} :
    s.findId? id = none ↔ ∀ k r, s.record? k = some r → r.id ≠ id := by
  unfold State.findId?
  rw [List.find?_eq_none]
  constructor
  · intro h k r hr eq
    have mem : k ∈ s.ct.index := (indexed.1 k).2 (by rw [hr]; rfl)
    exact h k mem (by simp [hr, eq])
  · intro h k _
    cases hr : s.record? k with
    | none => simp
    | some r => simpa using h k r hr

/-- Past the first element that fails a downward closed test, every element fails it. -/
theorem eq_false_of_mem_dropWhile {α : Type} {p : α → Bool} {l : List α}
    (closed : l.Pairwise fun a b => p b = true → p a = true) {x : α} (hx : x ∈ l.dropWhile p) : p x = false := by
  induction l with
  | nil => cases hx
  | cons a l ih =>
    obtain ⟨first, rest⟩ := List.pairwise_cons.1 closed
    cases ha : p a with
    | true =>
      rw [List.dropWhile_cons_of_pos ha] at hx
      exact ih rest hx
    | false =>
      rw [List.dropWhile_cons_of_neg (by simp [ha])] at hx
      rcases List.mem_cons.1 hx with rfl | later
      · exact ha
      · by_contra holds
        simp [first x later (by simpa using holds)] at ha

/-- A handle enters an exact, ascending index between the lower and the higher IDs (R79). -/
theorem State.indexed.insert {s : State} (indexed : s.indexed) {h : Nat} {r : Record} (free : s.record? h = none)
    (fresh : ∀ k q, s.record? k = some q → q.id ≠ r.id) :
    ∃ before after, s.ct.index = before ++ after ∧
      ((s.setRecord h (some r)).insertIndex h r.id).ct.index = before ++ h :: after ∧
      (∀ k ∈ before, ∀ q, s.record? k = some q → q.id.toNat < r.id.toNat) ∧
      ∀ k ∈ after, ∀ q, s.record? k = some q → r.id.toNat < q.id.toNat := by
  obtain ⟨exact_, ascending⟩ := indexed
  let below : Nat → Bool := fun k =>
    ((s.setRecord h (some r)).record? k).any fun q => decide (q.id.toNat < r.id.toNat)
  have reads : ∀ k q, s.record? k = some q → below k = decide (q.id.toNat < r.id.toNat) := by
    intro k q hq
    have other : k ≠ h := by
      rintro rfl
      rw [free] at hq
      cases hq
    simp [below, State.record?_setRecord, other, hq]
  have closed : s.ct.index.Pairwise fun a b => below b = true → below a = true := by
    refine ascending.imp_of_mem fun {a b} ha hb lt hbelow => ?_
    obtain ⟨ra, hra⟩ := Option.isSome_iff_exists.1 ((exact_ a).1 ha)
    obtain ⟨rb, hrb⟩ := Option.isSome_iff_exists.1 ((exact_ b).1 hb)
    rw [reads b rb hrb, decide_eq_true_eq] at hbelow
    rw [reads a ra hra, decide_eq_true_eq]
    exact (lt ra rb hra hrb).trans hbelow
  refine ⟨s.ct.index.takeWhile below, s.ct.index.dropWhile below, List.takeWhile_append_dropWhile.symm, rfl,
    fun k hk q hq => ?_, fun k hk q hq => ?_⟩
  · simpa [reads k q hq] using List.mem_takeWhile_imp hk
  · have above := eq_false_of_mem_dropWhile closed hk
    rw [reads k q hq, decide_eq_false_iff_not] at above
    have differ : q.id.toNat ≠ r.id.toNat := fun eq => fresh k q hq (BitVec.eq_of_toNat_eq eq)
    omega

@[simp] theorem State.record?_reset (k : Nat) : State.reset.record? k = none := by
  by_cases hk : k < 48 <;> simp [State.record?, State.reset, hk]

theorem reset_indexed : State.reset.indexed :=
  ⟨fun h => by rw [State.record?_reset]; exact ⟨(nomatch ·), (nomatch ·)⟩, List.Pairwise.nil⟩

theorem Effect.indexed {s t : State} (e : Effect s t) (indexed : s.indexed) : t.indexed := by
  have same : ∀ {h r r'}, s.record? h = some r → r.Evolves s r' → t.record? h = some r' → OthersStand h s t →
      ∀ k, (t.record? k).map Record.id = (s.record? k).map Record.id := by
    intro h r r' before evolves here others k
    by_cases hk : k = h
    · subst hk
      rw [before, here, Option.map_some, Option.map_some, evolves.id_profile.1]
    · rw [others k hk]
  cases e with
  | stands stand =>
    exact indexed.of_ids (congrArg Table.index stand.ct) fun k => by
      rw [State.record?_congr (congrArg Table.slots stand.ct)]
  | emptied ct =>
    exact reset_indexed.of_ids (congrArg Table.index ct) fun k => by rw [State.record?_congr (congrArg Table.slots ct)]
  | profileWritten _ _ _ _ _ ct =>
    exact indexed.of_ids (congrArg Table.index ct) fun k => by rw [State.record?_congr (congrArg Table.slots ct)]
  | made h r free _ fresh _ _ _ _ here others index =>
    obtain ⟨before, after, split, joined, lower, higher⟩ :=
      indexed.insert free ((indexed.findId?_eq_none).1 fresh)
    obtain ⟨exact_, ascending⟩ := indexed
    have index' : t.ct.index = before ++ h :: after := index.trans joined
    have absent : h ∉ s.ct.index := fun mem => by simpa [free] using (exact_ h).1 mem
    have apart : ∀ k, k ∈ before ∨ k ∈ after → k ≠ h := by
      rintro k mem rfl
      exact absent (by rw [split]; exact List.mem_append.2 mem)
    have keeps : ∀ k, k ∈ before ∨ k ∈ after → t.record? k = s.record? k := fun k mem => others k (apart k mem)
    have rest := pairwise_ids_congr (t := t) (fun k hk => by rw [keeps k (by simpa [split] using hk)]) ascending
    rw [split, List.pairwise_append] at rest
    obtain ⟨ascBefore, ascAfter, across⟩ := rest
    refine ⟨fun k => ?_, ?_⟩
    · rw [index']
      by_cases hk : k = h
      · subst hk
        simp [here]
      · rw [others k hk, ← exact_, split]
        simp [hk]
    · rw [index', List.pairwise_append, List.pairwise_cons]
      refine ⟨ascBefore, ⟨fun b hb ra rb hra hrb => ?_, ascAfter⟩, fun a ha b hb ra rb hra hrb => ?_⟩
      · obtain rfl : r = ra := Option.some.inj (here.symm.trans hra)
        exact higher b hb rb (keeps b (.inr hb) ▸ hrb)
      · rcases List.mem_cons.1 hb with rfl | hb
        · obtain rfl : r = rb := Option.some.inj (here.symm.trans hrb)
          exact lower a ha ra (keeps a (.inl ha) ▸ hra)
        · exact across a ha b hb ra rb hra hrb
  | rewritten h r r' before evolves _ here others index =>
    exact indexed.of_ids index (same before evolves here others)
  | moved h r r' before evolves _ here others index =>
    exact indexed.of_ids index (same before evolves here others)
  | released h r _ _ gone others index =>
    obtain ⟨exact_, ascending⟩ := indexed
    refine ⟨fun k => ?_, ?_⟩
    · by_cases hk : k = h
      · subst hk
        simp [index, gone]
      · simp [index, hk, exact_, others k hk]
    · rw [index]
      refine pairwise_ids_congr (fun k hk => ?_) (ascending.filter _)
      rw [others k (by simpa using (List.mem_filter.1 hk).2)]

/-- Settles O4: an effect leaves the ID of every record, makes one at its place in the order or frees one. -/
theorem stepKeepsTheIndex : Obligations.StepKeepsTheIndex := fun _ _ => step_keeps Effect.indexed

/-! ### O5 -/

/-- The list each slot belongs to, as `State.listed` reads it. -/
def State.listingOf (s : State) (h : Nat) : Option Listing := (s.record? h).map fun r => r.custody.listing

theorem State.listingOf_eq_member {s : State} {h c : Nat} :
    s.listingOf h = some (.member c) ↔ ∃ r t, s.record? h = some r ∧ r.custody = .loaded c t := by
  unfold State.listingOf
  cases s.record? h with
  | none => simp
  | some r => cases hc : r.custody <;> simp [Custody.listing, hc]

theorem State.listingOf_eq_stage {s : State} {h : Nat} :
    s.listingOf h = some .stage ↔ ∃ r, s.record? h = some r ∧ (r.isStaged = true ∨ r.isHandover = true) := by
  unfold State.listingOf
  cases s.record? h with
  | none => simp
  | some r => cases hc : r.custody <;> simp [Custody.listing, Record.isStaged, Record.isHandover, hc]

/-- `State.listed` over the listing of each slot. -/
structure State.ListedBy (s : State) : Prop where
  count : s.tb.presentCount ≤ 4
  nodup : ∀ c, 1 ≤ c → c ≤ 4 → (s.membersOf c).Nodup
  mem : ∀ c, 1 ≤ c → c ≤ 4 → ∀ h, h ∈ s.membersOf c ↔ s.listingOf h = some (.member c)
  stageNodup : s.ct.stage.Nodup
  memStage : ∀ h, h ∈ s.ct.stage ↔ s.listingOf h = some .stage
  present : ∀ h c, s.listingOf h = some (.member c) → 1 ≤ c ∧ c ≤ s.tb.presentCount

theorem State.listed_iff (s : State) : s.listed ↔ s.ListedBy := by
  constructor
  · rintro ⟨count, member, stageNodup, memStage, present⟩
    refine ⟨count, fun c h1 h4 => (member c h1 h4).1, fun c h1 h4 h => ?_, stageNodup, fun h => ?_, fun h c hl => ?_⟩
    · rw [(member c h1 h4).2, State.listingOf_eq_member]
    · rw [memStage, State.listingOf_eq_stage]
    · obtain ⟨r, t, hr, hc⟩ := State.listingOf_eq_member.1 hl
      exact present h r c t hr hc
  · rintro ⟨count, nodup, mem, stageNodup, memStage, present⟩
    refine ⟨count, fun c h1 h4 => ⟨nodup c h1 h4, fun h => ?_⟩, stageNodup, fun h => ?_, fun h r c t hr hc => ?_⟩
    · rw [mem c h1 h4, State.listingOf_eq_member]
    · rw [memStage, State.listingOf_eq_stage]
    · exact present h c (State.listingOf_eq_member.2 ⟨r, t, hr, hc⟩)

/-- Lists that stand are as good as before while every slot that is in a list keeps its listing. -/
theorem State.ListedBy.of_listings {s t : State} (listed : s.ListedBy) (count : t.tb.presentCount = s.tb.presentCount)
    (members : t.ct.members = s.ct.members) (stage : t.ct.stage = s.ct.stage)
    (listings : ∀ h l, l ≠ .unlisted → (t.listingOf h = some l ↔ s.listingOf h = some l)) : t.ListedBy where
  count := count ▸ listed.count
  nodup c h1 h4 := State.membersOf_congr members c ▸ listed.nodup c h1 h4
  mem c h1 h4 h := by rw [State.membersOf_congr members, listed.mem c h1 h4, listings h _ (by simp)]
  stageNodup := stage ▸ listed.stageNodup
  memStage h := by rw [stage, listed.memStage, listings h _ (by simp)]
  present h c hl := count ▸ listed.present h c ((listings h _ (by simp)).1 hl)

theorem State.listingOf_congr {s t : State} {h : Nat} (record : t.record? h = s.record? h) :
    t.listingOf h = s.listingOf h := by
  simp only [State.listingOf, record]

/-- A handle leaves the list it is in and joins the end of the one its new custody belongs to (R81). -/
theorem State.ListedBy.move {s t : State} (listed : s.ListedBy) {h : Nat} {r : Record} (room : s.Room r.custody)
    (here : t.record? h = some r) (others : OthersStand h s t)
    (members : ∀ c, 1 ≤ c → c ≤ 4 →
      t.membersOf c = (s.membersOf c).filter (· != h) ++ if c = r.place then [h] else [])
    (stage : t.ct.stage = s.ct.stage.filter (· != h) ++ if r.place = 5 then [h] else [])
    (count : t.tb.presentCount = s.tb.presentCount) : t.ListedBy := by
  have listing : t.listingOf h = some r.custody.listing := by simp only [State.listingOf, here, Option.map_some]
  have elsewhere : ∀ k, k ≠ h → t.listingOf k = s.listingOf k := fun k hk => State.listingOf_congr (others k hk)
  have memberPlace : ∀ c, c ≤ 4 → (c = r.place ↔ r.custody.listing = .member c) := by
    intro c h4
    show c = r.custody.place ↔ _
    cases hc : r.custody <;> simp [Custody.place, Custody.listing, eq_comm] <;> omega
  have stagePlace : r.place = 5 ↔ r.custody.listing = .stage := by
    show r.custody.place = 5 ↔ _
    generalize r.custody = cu at room
    cases room with
    | member present _ =>
      obtain ⟨-, -, le⟩ := State.compPresent_iff.1 present
      simp [Custody.place, Custody.listing]
      omega
    | stage _ => simp [Custody.place, Custody.listing]
    | unlisted => simp [Custody.place, Custody.listing]
  have nodup : ∀ (l : List Nat) (b : Prop) [Decidable b], l.Nodup → (l.filter (· != h) ++ if b then [h] else []).Nodup := by
    intro l b _ hl
    split
    · exact (hl.filter _).append (List.nodup_singleton h) (by simp)
    · simpa using hl.filter _
  refine ⟨count ▸ listed.count, fun c h1 h4 => ?_, fun c h1 h4 k => ?_, ?_, fun k => ?_, fun k c hl => ?_⟩
  · rw [members c h1 h4]
    exact nodup _ _ (listed.nodup c h1 h4)
  · rw [members c h1 h4]
    by_cases hk : k = h
    · subst hk
      rw [listing, Option.some_inj, ← memberPlace c h4]
      by_cases hp : c = r.place <;> simp [hp]
    · rw [elsewhere k hk, ← listed.mem c h1 h4]
      by_cases hp : c = r.place <;> simp [hp, hk]
  · rw [stage]
    exact nodup _ _ listed.stageNodup
  · rw [stage]
    by_cases hk : k = h
    · subst hk
      rw [listing, Option.some_inj, ← stagePlace]
      by_cases hp : r.place = 5 <;> simp [hp]
    · rw [elsewhere k hk, ← listed.memStage]
      by_cases hp : r.place = 5 <;> simp [hp, hk]
  · by_cases hk : k = h
    · subst hk
      rw [listing, Option.some_inj] at hl
      rw [count]
      generalize r.custody = cu at room hl
      cases room with
      | member present _ =>
        cases hl
        obtain ⟨ge, le, -⟩ := State.compPresent_iff.1 present
        exact ⟨ge, le⟩
      | stage _ => cases hl
      | unlisted => cases hl
    · rw [elsewhere k hk] at hl
      exact count ▸ listed.present k c hl

theorem Effect.listed {s t : State} (e : Effect s t) (listed : s.ListedBy) : t.ListedBy := by
  cases e with
  | stands stand =>
    exact listed.of_listings stand.present (congrArg Table.members stand.ct) (congrArg Table.stage stand.ct)
      fun h l _ => by rw [State.listingOf_congr (State.record?_congr (congrArg Table.slots stand.ct) h)]
  | emptied ct _ present =>
    have free : ∀ h, t.listingOf h = none := fun h => by
      rw [State.listingOf, State.record?_congr (congrArg Table.slots ct), State.record?_reset]
      rfl
    have empty : ∀ c, 1 ≤ c → c ≤ 4 → t.membersOf c = [] := fun c h1 h4 => by
      rw [State.membersOf_congr (congrArg Table.members ct)]
      obtain ⟨n, rfl⟩ : ∃ n, c = n + 1 := ⟨c - 1, by omega⟩
      simp [State.membersOf, State.reset, show n < 4 by omega]
    have emptyStage : t.ct.stage = [] := congrArg Table.stage ct
    exact ⟨present, fun c h1 h4 => empty c h1 h4 ▸ .nil, fun c h1 h4 h => by simp [empty c h1 h4, free],
      emptyStage ▸ .nil, fun h => by simp [emptyStage, free], fun h c hl => by rw [free] at hl; cases hl⟩
  | profileWritten _ _ _ _ _ ct _ stand =>
    exact listed.of_listings stand.present (congrArg Table.members ct) (congrArg Table.stage ct)
      fun h l _ => by rw [State.listingOf_congr (State.record?_congr (congrArg Table.slots ct) h)]
  | made h r free _ _ _ _ _ room here others _ members stage _ _ stand =>
    have absent : s.listingOf h = none := by rw [State.listingOf, free]; rfl
    refine listed.move room here others (fun c h1 h4 => ?_) ?_ stand.present
    · rw [members c h1 h4, List.filter_eq_self.2]
      intro k hk
      have : k ≠ h := by
        rintro rfl
        rw [listed.mem c h1 h4, absent] at hk
        cases hk
      simpa using this
    · rw [stage, List.filter_eq_self.2]
      intro k hk
      have : k ≠ h := by
        rintro rfl
        rw [listed.memStage, absent] at hk
        cases hk
      simpa using this
  | rewritten h r r' before _ listing here others _ members stage _ stand =>
    refine listed.of_listings stand.present members stage fun k l _ => ?_
    by_cases hk : k = h
    · subst hk
      simp only [State.listingOf, before, here, Option.map_some, listing]
    · rw [State.listingOf_congr (others k hk)]
  | moved h r r' _ _ room here others _ members stage _ stand => exact listed.move room here others members stage stand.present
  | released h r before closed gone others _ members stage _ _ stand =>
    refine listed.of_listings stand.present members stage fun k l hl => ?_
    by_cases hk : k = h
    · subst hk
      obtain ⟨kind, hc⟩ := r.isClosed_iff.1 closed
      simp only [State.listingOf, before, gone, Option.map_some, hc, Custody.listing, Option.map_none]
      exact ⟨(nomatch ·), fun eq => absurd (Option.some.inj eq).symm hl⟩
    · rw [State.listingOf_congr (others k hk)]

/-- Settles O5: a record joins the list of its new custody as it leaves its old one, and no other list changes. -/
theorem stepKeepsTheLists : Obligations.StepKeepsTheLists := fun s t listed stepped =>
  t.listed_iff.2 (step_keeps (P := State.ListedBy) Effect.listed (s.listed_iff.1 listed) stepped)

/-! ### O6 -/

theorem State.compFull_eq_false {s : State} {c : Nat} :
    s.compFull c = false ↔ (s.membersOf c).length < (s.compAt c).capacity := by
  simp [State.compFull]

theorem State.stageFull_eq_false {s : State} : s.stageFull = false ↔ s.ct.stage.length < 8 := by
  simp [State.stageFull]

/-- A handle joins a list that has room; no other list grows (R82). -/
theorem State.withinCapacity.join {s t : State} (within : s.withinCapacity) {h : Nat} {cu : Custody}
    (room : s.Room cu) {others : Nat → List Nat} {otherStage : List Nat}
    (fewer : ∀ c, (others c).length ≤ (s.membersOf c).length) (fewerStage : otherStage.length ≤ s.ct.stage.length)
    (members : ∀ c, 1 ≤ c → c ≤ 4 → t.membersOf c = others c ++ if c = cu.place then [h] else [])
    (stage : t.ct.stage = otherStage ++ if cu.place = 5 then [h] else [])
    (capacity : ∀ c, (t.compAt c).capacity = (s.compAt c).capacity) : t.withinCapacity := by
  obtain ⟨lists, stageList⟩ := within
  refine ⟨fun c h1 h4 => ?_, ?_⟩
  · have := fewer c
    have := lists c h1 h4
    rw [members c h1 h4, capacity, List.length_append]
    split
    next joined =>
      cases room with
      | member _ free =>
        obtain rfl : c = _ := joined
        have := State.compFull_eq_false.1 free
        rw [List.length_singleton]
        omega
      | stage _ => exact absurd (show c = 5 from joined) (by omega)
      | unlisted => exact absurd (show c = 6 from joined) (by omega)
    next => simp; omega
  · rw [stage, List.length_append]
    split
    next joined =>
      cases room with
      | @member c _ present _ =>
        obtain rfl : c = 5 := joined
        obtain ⟨-, -, le⟩ := State.compPresent_iff.1 present
        omega
      | stage free =>
        have := State.stageFull_eq_false.1 free
        rw [List.length_singleton]
        omega
      | unlisted => exact absurd (show 6 = 5 from joined) (by omega)
    next => simp; omega

theorem Effect.withinCapacity {s t : State} (e : Effect s t) (within : s.withinCapacity) : t.withinCapacity := by
  have stands : t.ct.members = s.ct.members → t.ct.stage = s.ct.stage → Standing s t → t.withinCapacity :=
    fun members stage stand =>
      ⟨fun c h1 h4 => by rw [State.membersOf_congr members, stand.capacity]; exact within.1 c h1 h4,
        by rw [stage]; exact within.2⟩
  cases e with
  | stands stand =>
    obtain ⟨lists, stage⟩ := within
    refine ⟨fun c h1 h4 => ?_, by rw [stand.ct]; exact stage⟩
    rw [State.membersOf_congr (congrArg Table.members stand.ct)]
    rcases stand.capacity c with same | room
    · exact same ▸ lists c h1 h4
    · exact room
  | emptied ct =>
    refine ⟨fun c h1 h4 => ?_, by rw [ct]; exact Nat.zero_le 8⟩
    rw [State.membersOf_congr (congrArg Table.members ct)]
    obtain ⟨n, rfl⟩ : ∃ n, c = n + 1 := ⟨c - 1, by omega⟩
    simp [State.membersOf, State.reset, show n < 4 by omega]
  | profileWritten _ _ _ _ _ ct _ stand => exact stands (congrArg Table.members ct) (congrArg Table.stage ct) stand
  | made h r _ _ _ _ _ _ room _ _ _ members stage _ _ stand =>
    exact within.join room (fun _ => le_rfl) le_rfl members stage stand.capacity
  | rewritten _ _ _ _ _ _ _ _ _ members stage _ stand => exact stands members stage stand
  | moved h r r' _ _ room _ _ _ members stage _ stand =>
    exact within.join room (fun _ => List.length_filter_le _ _) (List.length_filter_le _ _) members stage stand.capacity
  | released _ _ _ _ _ _ _ members stage _ _ stand => exact stands members stage stand

/-- Settles O6: a list grows only where there is room, and no capacity falls below its member count. -/
theorem stepKeepsTheCapacities : Obligations.StepKeepsTheCapacities := fun _ _ => step_keeps Effect.withinCapacity

/-! ### O7 -/

/-- Whether the record in a slot, if any, names a profile entry (R66). -/
def State.names (s : State) (i h : Nat) : Bool := (s.record? h).any fun r => r.profile == i

theorem State.naming_eq (s : State) (i : Nat) : s.naming i = (List.range 48).countP (s.names i) := by
  have slots : s.ct.slots.toList = (List.range 48).map s.record? := by
    apply List.ext_getElem
    · simp
    · intro n h1 h2
      have hn : n < 48 := by simpa using h1
      simp [State.record?, hn]
  simp only [State.naming, slots, List.countP_map]
  rfl

/-- Counting over the slots after a change to one of them. -/
theorem countP_range_update {p q : Nat → Bool} {h n : Nat} (hh : h < n) (same : ∀ k, k ≠ h → q k = p k) :
    (List.range n).countP q + (p h).toNat = (List.range n).countP p + (q h).toNat := by
  induction n with
  | zero => omega
  | succ n ih =>
    simp only [List.range_succ, List.countP_append, List.countP_singleton]
    by_cases hn : h = n
    · subst hn
      have before : (List.range h).countP q = (List.range h).countP p :=
        List.countP_congr fun k hk => by rw [same k (by have := List.mem_range.1 hk; omega)]
      cases p h <;> cases q h <;> simp [before]
    · rw [same n (Ne.symm hn)]
      have := ih (by omega)
      omega

theorem State.naming_congr {s t : State} {i : Nat} (h : ∀ k, t.names i k = s.names i k) : t.naming i = s.naming i := by
  rw [State.naming_eq, State.naming_eq, show t.names i = s.names i from funext h]

theorem State.naming_update {s t : State} {h : Nat} (slot : h < 48) (others : OthersStand h s t) (i : Nat) :
    t.naming i + (s.names i h).toNat = s.naming i + (t.names i h).toNat := by
  rw [State.naming_eq, State.naming_eq]
  exact countP_range_update slot fun k hk => by simp only [State.names, others k hk]

theorem Effect.useCounted {s t : State} (e : Effect s t) (counted : s.useCounted) : t.useCounted := by
  obtain ⟨counts, known⟩ := counted
  have same : t.pt = s.pt → (∀ k, (t.record? k).map Record.profile = (s.record? k).map Record.profile) →
      t.useCounted := by
    intro pt profiles
    have names : ∀ i k, t.names i k = s.names i k := fun i k => by
      have := congrArg (Option.any (· == i)) (profiles k)
      simpa only [Option.any_map, State.names, Function.comp_def] using this
    refine ⟨fun i hi => ?_, fun k r hr => ?_⟩
    · rw [State.profileAt_congr pt, State.naming_congr (names i)]
      exact counts i hi
    · have := profiles k
      rw [hr] at this
      obtain ⟨r0, hr0, eq⟩ := Option.map_eq_some_iff.1 this.symm
      exact eq ▸ known k r0 hr0
  have evolved : ∀ {h r r'}, s.record? h = some r → r.Evolves s r' → t.record? h = some r' → OthersStand h s t →
      ∀ k, (t.record? k).map Record.profile = (s.record? k).map Record.profile := by
    intro h r r' before evolves here others k
    by_cases hk : k = h
    · subst hk
      rw [before, here, Option.map_some, Option.map_some, evolves.id_profile.2]
    · rw [others k hk]
  cases e with
  | stands stand => exact same stand.pt fun k => by rw [State.record?_congr (congrArg Table.slots stand.ct)]
  | emptied ct pt =>
    have free : ∀ k, t.record? k = none := fun k => by
      rw [State.record?_congr (congrArg Table.slots ct), State.record?_reset]
    refine ⟨fun i hi => ?_, fun k r hr => by rw [free] at hr; cases hr⟩
    have none : t.naming i = 0 := by
      rw [State.naming_eq, List.countP_eq_zero]
      intro k _
      simp [State.names, free]
    rw [State.profileAt_congr (s := State.reset) pt, none]
    exact ⟨by simp [State.profileAt, State.reset, hi, Profile.undefined], fun pos => absurd pos (lt_irrefl 0)⟩
  | profileWritten i f unused count _ ct pt =>
    have record := State.record?_congr (congrArg Table.slots ct)
    have naming : ∀ j, t.naming j = s.naming j := fun j =>
      State.naming_congr fun k => by simp only [State.names, record]
    refine ⟨fun j hj => ?_, fun k r hr => known k r (record k ▸ hr)⟩
    rw [State.profileAt_congr pt, State.profileAt_modifyProfile, naming]
    split
    next here =>
      obtain ⟨rfl, -⟩ := here
      have := (counts j hj).1
      rw [count]
      exact ⟨this, fun pos => by omega⟩
    next => exact counts j hj
  | made h r free slot _ index defined _ _ here others _ _ _ counted profiles =>
    refine ⟨fun i hi => ?_, fun k q hq => ?_⟩
    · have update := State.naming_update slot others i
      have was : s.names i h = false := by simp [State.names, free]
      have is : t.names i h = (r.profile == i) := by simp [State.names, here]
      rw [was, is] at update
      obtain ⟨count, inUse⟩ := counts i hi
      by_cases hr : i = r.profile
      · subst hr
        rw [counted]
        simp only [beq_self_eq_true, Bool.toNat_true, Bool.toNat_false] at update
        exact ⟨by dsimp only; omega, fun _ => defined⟩
      · have : (r.profile == i) = false := by simp [Ne.symm hr]
        rw [this] at update
        rw [profiles i hr, show t.naming i = s.naming i from update]
        exact ⟨count, inUse⟩
    · by_cases hk : k = h
      · subst hk
        exact Option.some.inj (here.symm.trans hq) ▸ index
      · exact known k q (others k hk ▸ hq)
  | rewritten h r r' before evolves _ here others _ _ _ pt => exact same pt (evolved before evolves here others)
  | moved h r r' before evolves _ here others _ _ _ pt => exact same pt (evolved before evolves here others)
  | released h r before _ gone others _ _ _ counted profiles =>
    refine ⟨fun i hi => ?_, fun k q hq => ?_⟩
    · have update := State.naming_update (State.lt_of_record? before) others i
      have was : s.names i h = (r.profile == i) := by simp [State.names, before]
      have is : t.names i h = false := by simp [State.names, gone]
      rw [was, is] at update
      obtain ⟨count, inUse⟩ := counts i hi
      by_cases hr : i = r.profile
      · subst hr
        rw [counted hi]
        simp only [beq_self_eq_true, Bool.toNat_true, Bool.toNat_false] at update
        exact ⟨by dsimp only; omega, fun pos => inUse (by omega)⟩
      · have : (r.profile == i) = false := by simp [Ne.symm hr]
        rw [this] at update
        rw [profiles i hr, show t.naming i = s.naming i from update]
        exact ⟨count, inUse⟩
    · by_cases hk : k = h
      · subst hk
        rw [gone] at hq
        cases hq
      · exact known k q (others k hk ▸ hq)

/-- Settles O7: a use count moves with the records that name its entry, and only an unused entry is written. -/
theorem stepKeepsTheUseCounts : Obligations.StepKeepsTheUseCounts := fun _ _ => step_keeps Effect.useCounted

end Sys2Proof.Machine

/-! Custody seconds and the trip clock (O13): the statement does not bound the trip clock, and from a clock beyond its
32 bits the next second steps back to the saturated value, below a record's last charge. -/

namespace Sys2Proof.Machine

/-- A STAGED record whose last charge lies one second beyond the 32-bit trip clock. -/
def overchargedRecord : Record :=
  ⟨1, .staged 4294967296, 0, .intact, ⟨false, false, false, false, false⟩, 0, 0, 0, 0, 0, 0, 0⟩

/-- The part in RUN with its clock at that second, that record in slot 0, and the next second event to take. -/
def overrunClock : State :=
  { State.reset.setRecord 0 (some overchargedRecord) with
    tb := { State.reset.tb with trip := 4294967296 }
    pending := [.secondEvent 0] }

theorem record?_overrunClock (h : Nat) :
    overrunClock.record? h = if h = 0 then some overchargedRecord else none := by
  rw [State.record?_congr (t := overrunClock) (s := State.reset.setRecord 0 (some overchargedRecord)) rfl,
    State.record?_setRecord, State.record?_reset]
  simp

theorem eq_of_record?_overrunClock {h : Nat} {r : Record} (hr : overrunClock.record? h = some r) :
    r = overchargedRecord := by
  rw [record?_overrunClock] at hr
  split at hr <;> cases hr
  rfl

theorem overrunClock_recordsLawful : overrunClock.recordsLawful := fun h r hr => by
  rw [eq_of_record?_overrunClock hr]
  exact ⟨by decide, by decide, by decide, by decide, by decide, by decide, fun b hb => by cases hb⟩

theorem overrunClock_chargedByNow : overrunClock.chargedByNow := by
  refine ⟨fun h r t hr ht => ?_, fun p hp => by cases hp⟩
  rw [eq_of_record?_overrunClock hr] at ht
  cases ht
  exact le_refl 4294967296

/-- The next second of that part: the record stands, but the clock is at 4,294,967,295. -/
theorem step_overrunClock :
    ∃ t, step overrunClock = .next t ∧ t.now = 4294967295 ∧ t.record? 0 = some overchargedRecord := by
  let s : State := { overrunClock with pending := [] }
  have here : s.record? 0 = some overchargedRecord := (record?_overrunClock 0).trans (if_pos rfl)
  have stands : s.takeExpiries.record? 0 = s.record? 0 := by
    rcases s.record?_takeExpiries 0 with stands | ⟨r, f, d, hr, frozen, -⟩
    · exact stands
    · cases here.symm.trans hr
      cases frozen
  exact ⟨(s.beginSecond 0).evaluateLines, rfl, rfl, stands.trans here⟩

/-- Refutes O13: nothing bounds the trip clock from above, and a second event takes a clock beyond 4,294,967,295 back to
it, so that a record charged to such a second is then charged beyond now. -/
theorem not_custodySecondsTrackTheClock : ¬ Obligations.CustodySecondsTrackTheClock := by
  unfold Obligations.CustodySecondsTrackTheClock
  intro claim
  obtain ⟨t, stepped, now, record⟩ := step_overrunClock
  obtain ⟨⟨charged, -⟩, -⟩ := claim overrunClock t overrunClock_recordsLawful overrunClock_chargedByNow stepped
  have beyond : 4294967296 ≤ t.now := charged 0 overchargedRecord 4294967296 record rfl
  rw [now] at beyond
  exact absurd beyond (by decide)

end Sys2Proof.Machine

/-! The arithmetic of measurement (chapters 2 and 3): the sorted window and its value (O58), and what keeps probes and
zones in range. -/

namespace Sys2Proof.Machine

/-! ### The sorted window -/

theorem insertSorted_eq (x : Int) (l : List Int) : insertSorted x l = l.orderedInsert (· ≤ ·) x := by
  induction l with
  | nil => rfl
  | cons y ys ih => rw [insertSorted, ih, List.orderedInsert_cons]

/-- The sort of the model is the insertion sort of the library. -/
theorem sortInts_eq (l : List Int) : sortInts l = l.insertionSort (· ≤ ·) := by
  induction l with
  | nil => rfl
  | cons x xs ih => rw [List.insertionSort_cons, ← ih, ← insertSorted_eq]; rfl

theorem sortInts_perm (l : List Int) : (sortInts l).Perm l := sortInts_eq l ▸ List.perm_insertionSort _ l

theorem sortInts_of_perm {v w : List Int} (h : v.Perm w) : sortInts v = sortInts w := by
  rw [sortInts_eq, sortInts_eq]
  exact List.Perm.eq_of_sortedLE List.sortedLE_insertionSort List.sortedLE_insertionSort
    (((List.perm_insertionSort _ v).trans h).trans (List.perm_insertionSort _ w).symm)

theorem sortInts_of_sorted {l : List Int} (h : l.Pairwise (· ≤ ·)) : sortInts l = l := by
  rw [sortInts_eq, List.Pairwise.insertionSort_eq h]

theorem meanUp_bounds (a b : Int) : 2 * meanUp a b ≤ a + b + 1 ∧ a + b + 1 < 2 * (meanUp a b + 1) := by
  unfold meanUp
  omega

/-- Settles O58: the value is read off the sorted window, which a permutation does not change. -/
theorem probeValueIsFormedFromTheSortedWindow : Obligations.ProbeValueIsFormedFromTheSortedWindow := by
  refine ⟨fun v w h => ?_, rfl, fun a => rfl, fun a b => ?_, fun a b c hab hbc => ?_, fun a b c d hab hbc hcd => ?_⟩
  · simp only [probeValue?, sortInts_of_perm h]
  · rcases le_total a b with h | h
    · exact ⟨meanUp a b, by rw [probeValue?, sortInts_of_sorted (by simpa using h)], meanUp_bounds a b⟩
    · exact ⟨meanUp b a, by rw [probeValue?, sortInts_of_perm (.swap b a []), sortInts_of_sorted (by simpa using h)],
        Int.add_comm b a ▸ meanUp_bounds b a⟩
  · rw [probeValue?, sortInts_of_sorted (by simp; omega)]
  · exact ⟨meanUp b c, by rw [probeValue?, sortInts_of_sorted (by simp; omega)], meanUp_bounds b c⟩

/-! ### Values in range -/

/-- The range of probe values, air figures and estimates (00_scope.md, section 7). -/
def InRange (x : Int) : Prop := -400 ≤ x ∧ x ≤ 700

theorem clampTemp_inRange (t : Int) : InRange (clampTemp t) := by
  unfold clampTemp clampInt InRange tempLow tempHigh
  split_ifs <;> omega

theorem meanUp_inRange {a b : Int} (ha : InRange a) (hb : InRange b) : InRange (meanUp a b) := by
  obtain ⟨low, high⟩ := meanUp_bounds a b
  unfold InRange at *
  omega

theorem probeValue?_inRange {w : List Int} {v : Int} (h : probeValue? w = some v) (hw : ∀ x ∈ w, InRange x) :
    InRange v := by
  have sorted : ∀ x ∈ sortInts w, InRange x := fun x hx => hw x ((sortInts_perm w).mem_iff.1 hx)
  unfold probeValue? at h
  split at h
  · cases h
  next a eq => cases h; exact sorted _ (by simp [eq])
  next a b eq => cases h; exact meanUp_inRange (sorted a (by simp [eq])) (sorted b (by simp [eq]))
  next a b c eq => cases h; exact sorted _ (by simp [eq])
  next a b c d l eq => cases h; exact meanUp_inRange (sorted b (by simp [eq])) (sorted c (by simp [eq]))

theorem largest_spec (x : Int) (xs : List Int) :
    largest x xs ∈ x :: xs ∧ ∀ y ∈ x :: xs, y ≤ largest x xs := List.max?_eq_some_iff.1 rfl

theorem smallest_spec (x : Int) (xs : List Int) :
    smallest x xs ∈ x :: xs ∧ ∀ y ∈ x :: xs, smallest x xs ≤ y := List.min?_eq_some_iff.1 rfl

/-- The two cases of a step toward an air figure (R45). -/
theorem stepToward_spec (lag : Nat) (air estimate : Int) :
    EstimateStep lag air estimate (stepToward lag air estimate) := by
  dsimp only [EstimateStep]
  unfold stepToward
  dsimp only
  split <;> simp_all

/-- A step never goes past the air figure. -/
theorem stepToward_between (lag : Nat) (air estimate : Int) :
    min estimate air ≤ stepToward lag air estimate ∧ stepToward lag air estimate ≤ max estimate air := by
  obtain ⟨moves, creeps⟩ := stepToward_spec lag air estimate
  by_cases still : (air - estimate).tdiv (2 ^ lag) = 0
  · rw [creeps still]
    rcases lt_trichotomy (air - estimate) 0 with neg | zero | pos
    · rw [Int.sign_eq_neg_one_of_neg neg]; omega
    · rw [zero, Int.sign_zero]; omega
    · rw [Int.sign_eq_one_of_pos pos]; omega
  · rw [moves still]
    have unit : (0 : Int) ≤ 2 ^ lag := by positivity
    rcases le_total 0 (air - estimate) with up | down
    · have := Int.tdiv_nonneg up unit
      have := Int.tdiv_le_self (2 ^ lag) up
      omega
    · have up : 0 ≤ -(air - estimate) := by omega
      have := Int.tdiv_nonneg up unit
      have := Int.tdiv_le_self (2 ^ lag) up
      rw [Int.neg_tdiv] at *
      omega

theorem stepToward_inRange {lag : Nat} {air estimate : Int} (ha : InRange air) (he : InRange estimate) :
    InRange (stepToward lag air estimate) := by
  obtain ⟨low, high⟩ := stepToward_between lag air estimate
  unfold InRange at *
  omega

/-! ### Probes in range -/

/-- A probe's window holds at most four readings, all in range, and S is at most 3 (R19, R26). -/
structure Probe.Sound (p : Probe) : Prop where
  window : p.window.length ≤ 4
  rejects : p.rejects ≤ 3
  readings : ∀ x ∈ p.window, InRange x

theorem Probe.sound_of_empty {p : Probe} (window : p.window = []) (rejects : p.rejects ≤ 3) : p.Sound :=
  ⟨by simp [window], rejects, by simp [window]⟩

theorem Probe.Sound.of_fields {p q : Probe} (h : p.Sound) (window : q.window = p.window) (rejects : q.rejects = p.rejects) :
    q.Sound :=
  ⟨window ▸ h.window, rejects ▸ h.rejects, window ▸ h.readings⟩

theorem length_appendReading {w : List Int} (hw : w.length ≤ 4) (x : Int) : (appendReading w x).length ≤ 4 := by
  unfold appendReading
  split <;> simp <;> omega

theorem mem_appendReading {w : List Int} {x y : Int} (h : y ∈ appendReading w x) : y ∈ w ∨ y = x := by
  rw [appendReading, List.mem_append, List.mem_singleton] at h
  refine h.imp (fun hy => ?_) id
  split at hy
  · exact List.mem_of_mem_drop hy
  · exact hy

theorem Probe.Sound.accept {p : Probe} (h : p.Sound) {x : Int} (hx : InRange x) : (p.accept x).Sound := by
  have appended : ∀ q : Probe, q.window = appendReading p.window x → q.rejects = 0 → q.Sound := fun q window rejects =>
    ⟨window ▸ length_appendReading h.window x, by omega, fun y hy => (mem_appendReading (window ▸ hy)).elim
      (h.readings y) fun eq => eq ▸ hx⟩
  unfold Probe.accept
  dsimp only
  split
  · exact h
  · exact appended _ rfl rfl
  · exact appended _ rfl rfl
  · exact appended _ rfl rfl

theorem Probe.Sound.reject {p : Probe} (h : p.Sound) : p.reject.Sound := by
  have counted : ∀ q : Probe, p.window = q.window → q.rejects ≤ 3 → q.Sound := fun q window rejects =>
    ⟨window ▸ h.window, rejects, window ▸ h.readings⟩
  unfold Probe.reject
  split
  · exact h
  · split
    · exact Probe.sound_of_empty rfl (le_refl 3)
    · exact counted _ rfl (by dsimp only; omega)
  · split
    · exact Probe.sound_of_empty rfl (le_refl 3)
    · exact counted _ rfl (by dsimp only; omega)
  · exact Probe.sound_of_empty rfl (min_le_right _ _)

theorem Probe.Sound.read {p : Probe} (h : p.Sound) (n : Nat) : (p.read n).Sound := by
  unfold Probe.read
  dsimp only
  split_ifs
  · exact h
  · exact Probe.Sound.reject (h.of_fields rfl rfl)
  · refine Probe.Sound.accept ?_ (clampTemp_inRange _)
    exact h.of_fields rfl rfl

theorem Probe.Sound.closeGate {p : Probe} (h : p.Sound) : p.closeGate.Sound := by
  unfold Probe.closeGate
  split
  · exact h
  · exact (h.read _).of_fields rfl rfl

theorem Probe.restart_sound (p : Probe) : p.restart.Sound := sound_of_empty rfl (Nat.zero_le 3)

theorem Probe.configure_sound (z n : Nat) (k : Int) (p : Probe) : (p.configure z n k).Sound :=
  sound_of_empty rfl (Nat.zero_le 3)

/-! ### Zones in range -/

/-- A zone's air figures and estimates are in range (R38). -/
structure Zone.Sound (z : Zone) : Prop where
  airMax : InRange z.airMax
  airMin : InRange z.airMin
  warm : InRange z.warm
  cold : InRange z.cold

theorem Zone.Sound.sensing {z : Zone} (h : z.Sound) (sensing : Sensing) : Zone.Sound { z with sensing := sensing } :=
  ⟨h.airMax, h.airMin, h.warm, h.cold⟩

theorem Zone.Sound.stepEstimates {z : Zone} (h : z.Sound) : z.stepEstimates.Sound :=
  ⟨h.airMax, h.airMin, stepToward_inRange h.airMax h.warm, stepToward_inRange h.airMin h.cold⟩

theorem Zone.Sound.lose {z : Zone} (h : z.Sound) (now : Nat) : (z.lose now).Sound := by
  unfold Zone.lose
  split <;> exact h.sensing _

theorem Zone.Sound.pinReset {z : Zone} (h : z.Sound) (now : Nat) : (z.pinReset now).Sound := by
  unfold Zone.pinReset
  split
  · exact h.lose now
  · exact h
  · exact h

theorem Zone.Sound.gateClose {z : Zone} (h : z.Sound) (now : Nat) {set : List Int} (hset : ∀ x ∈ set, InRange x) :
    (z.gateClose now set).Sound := by
  cases set with
  | nil =>
    unfold Zone.gateClose
    split
    · split
      · exact h.lose now
      · exact (h.lose now).stepEstimates
    · exact h.stepEstimates
    · exact h
    all_goals contradiction
  | cons x xs =>
    have high : InRange (largest x xs) := hset _ (largest_spec x xs).1
    have low : InRange (smallest x xs) := hset _ (smallest_spec x xs).1
    cases hs : z.sensing with
    | blind => simp only [Zone.gateClose, hs]; exact ⟨high, low, high, low⟩
    | sensed => simp only [Zone.gateClose, hs]; exact Zone.Sound.stepEstimates ⟨high, low, h.warm, h.cold⟩
    | held d => simp only [Zone.gateClose, hs]; exact Zone.Sound.stepEstimates ⟨high, low, h.warm, h.cold⟩

theorem Zone.initial_sound : Zone.initial.Sound := by
  constructor <;> exact ⟨by decide, by decide⟩

theorem handOverSet_inRange {probes : List Probe} (h : ∀ p ∈ probes, p.Sound) (z : Nat) :
    ∀ x ∈ handOverSet probes z, InRange x := by
  intro x hx
  obtain ⟨p, hp, value⟩ := List.mem_filterMap.1 hx
  exact probeValue?_inRange value (h p (List.mem_of_mem_filter hp)).readings

/-- The invariant of O9 is that every probe and every zone is in range. -/
theorem State.measured_iff (s : State) :
    s.measured ↔ (∀ p, p < 8 → (s.probeAt p).Sound) ∧ ∀ z, 1 ≤ z → z ≤ 5 → (s.zoneAt z).Sound := by
  unfold State.measured
  constructor
  · rintro ⟨probes, zones⟩
    refine ⟨fun p hp => ?_, fun z h1 h5 => ?_⟩
    · obtain ⟨window, rejects, readings⟩ := probes p hp
      exact ⟨window, rejects, readings⟩
    · obtain ⟨m1, m2, m3, m4, m5, m6, m7, m8⟩ := zones z h1 h5
      exact ⟨⟨m1, m2⟩, ⟨m3, m4⟩, ⟨m5, m6⟩, ⟨m7, m8⟩⟩
  · rintro ⟨probes, zones⟩
    refine ⟨fun p hp => ?_, fun z h1 h5 => ?_⟩
    · obtain ⟨window, rejects, readings⟩ := probes p hp
      exact ⟨window, rejects, readings⟩
    · obtain ⟨⟨m1, m2⟩, ⟨m3, m4⟩, ⟨m5, m6⟩, ⟨m7, m8⟩⟩ := zones z h1 h5
      exact ⟨m1, m2, m3, m4, m5, m6, m7, m8⟩

end Sys2Proof.Machine

/-! What a step does away from the table, said once for the measurements, the alert lines and BACKUP (O9 to O11), and
for the queue (O2). -/

namespace Sys2Proof.Machine

/-! ### One reading at a time -/

theorem State.mem_probes {s : State} {q : Probe} : q ∈ s.ps.probes.toList ↔ ∃ p, p < 8 ∧ s.probeAt p = q := by
  rw [Vector.mem_toList_iff, Vector.mem_iff_getElem]
  constructor
  · rintro ⟨p, hp, rfl⟩
    exact ⟨p, hp, by simp [State.probeAt, hp]⟩
  · rintro ⟨p, hp, rfl⟩
    exact ⟨p, hp, by simp [State.probeAt, hp]⟩

/-- What a change to one compartment keeps of every compartment. -/
theorem State.compAt_modifyComp_keeps {P : Compartment → Prop} {f : Compartment → Compartment}
    (hf : ∀ k, P k → P (f k)) {s : State} (c : Nat) {d : Nat} (h : P (s.compAt d)) : P ((s.modifyComp c f).compAt d) := by
  rw [State.compAt_modifyComp]
  split
  next here => exact hf _ (here.1 ▸ h)
  next => exact h

theorem State.zoneAt_modifyZone_keeps {P : Zone → Prop} {f : Zone → Zone} (hf : ∀ x, P x → P (f x)) {s : State} (z : Nat)
    {y : Nat} (h : P (s.zoneAt y)) : P ((s.modifyZone z f).zoneAt y) := by
  rw [State.zoneAt_modifyZone]
  split
  next here => exact hf _ (here.1 ▸ h)
  next => exact h

/-- Raising on a condition is raising what there is to raise. -/
theorem State.raise_ite (b : Bool) (k : Kind) (s : State) :
    (if b = true then s.raise k else s) = s.raise? (if b = true then some k else none) := by
  cases b <;> rfl

theorem State.probeAt_closeGate (s : State) {p : Nat} (hp : p < 8) : s.closeGate.probeAt p = (s.probeAt p).closeGate := by
  refine State.probeAt_of_probes (f := Probe.closeGate) ?_ hp
  unfold State.closeGate
  dsimp only
  split <;> rfl

/-- What the gate-close of the scanner leaves standing. -/
theorem State.closeGate_stands (s : State) :
    s.closeGate.tb = s.tb ∧ s.closeGate.zm = s.zm ∧ s.closeGate.pt = s.pt ∧ s.closeGate.ct = s.ct ∧
      s.closeGate.ae = s.ae ∧ s.closeGate.hu = s.hu ∧ s.closeGate.au.lines = s.au.lines ∧ s.closeGate.li = s.li ∧
      s.closeGate.freeCount = s.freeCount ∧ s.closeGate.pending = s.pending ∧ s.closeGate.ps.gateOpen = false := by
  unfold State.closeGate
  dsimp only
  split <;> exact ⟨rfl, rfl, rfl, rfl, rfl, rfl, rfl, rfl, rfl, rfl, rfl⟩

theorem State.zoneAt_formZones (s : State) {z : Nat} (h1 : 1 ≤ z) (h5 : z ≤ 5) :
    s.formZones.zoneAt z =
      if s.zonePresent z then (s.zoneAt z).gateClose s.now (handOverSet s.ps.probes.toList z) else s.zoneAt z := by
  obtain ⟨n, rfl⟩ : ∃ n, z = n + 1 := ⟨z - 1, by omega⟩
  simp [State.zoneAt, State.formZones, show n < 5 by omega]

/-! ### The lines set afresh -/

theorem State.linesCurrent_refreshLines (s : State) : s.refreshLines.linesCurrent := fun i => by
  rw [State.line_refreshLines, State.level_refreshLines]

theorem State.pulsesNumbered_refreshLines (s : State) : s.refreshLines.pulsesNumbered := fun i n h => by
  rw [State.line_refreshLines] at h
  cases h

theorem State.line_unpowered (s : State) (i : Fin 2) : s.unpowered.au.lines[i] = Line.initial s.au.lines[i].pulses := by
  simp [State.unpowered]

/-- The conditions read no more of the time base than its mode and the present count (R171). -/
theorem State.level_of_blocks {s t : State} (c : Condition) (degraded : t.tb.degraded = s.tb.degraded)
    (present : t.tb.presentCount = s.tb.presentCount) (ps : t.ps = s.ps) (zm : t.zm = s.zm) (ct : t.ct = s.ct)
    (attention : t.au.attention = s.au.attention) : t.level c = s.level c := by
  cases c <;> simp only [State.level, State.zoneAt, State.compAt, State.zoneMembers, State.membersOf,
    State.compPresent, State.freeSlots, degraded, present, ps, zm, ct, attention]
  rfl

/-! ### What a step keeps -/

/-- What a part of a step keeps: the queue, and the invariants of measurements, pulses and BACKUP. -/
structure Keeps (s t : State) : Prop where
  pending : t.pending = s.pending
  measured : s.measured → t.measured
  numbered : s.pulsesNumbered → t.pulsesNumbered
  quiet : s.backupQuiet → t.backupQuiet

/-- What a whole step keeps: with these, each line's reference at its condition's level. -/
structure Upholds (s t : State) : Prop extends Keeps s t where
  current : s.linesCurrent → t.linesCurrent

theorem Keeps.refl (s : State) : Keeps s s := ⟨rfl, id, id, id⟩

theorem Keeps.trans {s t u : State} (h : Keeps s t) (k : Keeps t u) : Keeps s u :=
  ⟨k.pending.trans h.pending, k.measured ∘ h.measured, k.numbered ∘ h.numbered, k.quiet ∘ h.quiet⟩

theorem Upholds.refl (s : State) : Upholds s s := ⟨.refl s, id⟩

theorem State.measured.of_blocks {s t : State} (h : s.measured) (probes : t.ps.probes = s.ps.probes)
    (zones : t.zm.zones = s.zm.zones) : t.measured := by
  simp only [State.measured_iff, State.probeAt_congr probes, State.zoneAt_congr zones] at h ⊢
  exact h

theorem State.pulsesNumbered.of_lines {s t : State} (h : s.pulsesNumbered) (lines : t.au.lines = s.au.lines) :
    t.pulsesNumbered := fun i n => by
  rw [lines]
  exact h i n

/-- Outside BACKUP there is nothing to keep quiet. -/
theorem State.backupQuiet_of_power {t : State} (h : t.tb.power ≠ .backup) : t.backupQuiet := fun backup => absurd backup h

theorem State.backupQuiet.of_blocks {s t : State} (h : s.backupQuiet) (power : t.tb.power = s.tb.power)
    (scan : s.tb.power = .backup → s.tb.scanDue = false → t.tb.scanDue = false) (ps : t.ps = s.ps)
    (defrost : t.zm.defrostActive = s.zm.defrostActive)
    (zones : ∀ z, (s.zoneAt z).sensing = .blind → (t.zoneAt z).sensing = .blind)
    (comps : ∀ c, (s.compAt c).doorOpen = false ∧ (s.compAt c).episode = none →
      (t.compAt c).doorOpen = false ∧ (t.compAt c).episode = none)
    (hu : t.hu = s.hu) (lines : t.au.lines = s.au.lines) (li : t.li = s.li) : t.backupQuiet := by
  intro backup
  rw [power] at backup
  obtain ⟨gate, due, active, parts, sdo, blind, shut, still⟩ := h backup
  exact ⟨ps ▸ gate, scan backup due, defrost ▸ active, hu ▸ parts, li ▸ sdo, fun z h1 h5 => zones z (blind z h1 h5),
    fun c h1 h4 => comps c (shut c h1 h4), by rw [lines]; exact still⟩

/-- A change that leaves measurements and lines alone, made in RUN. -/
theorem Keeps.of_run {s t : State} (run : t.tb.power = .run) (probes : t.ps.probes = s.ps.probes)
    (zones : t.zm.zones = s.zm.zones) (lines : t.au.lines = s.au.lines) (pending : t.pending = s.pending) : Keeps s t :=
  ⟨pending, fun h => h.of_blocks probes zones, fun h => h.of_lines lines,
    fun _ => State.backupQuiet_of_power (by rw [run]; decide)⟩

/-- A change to the table, the time base or the attention set alone, in RUN or in BACKUP. -/
theorem Keeps.of_blocks {s t : State} (power : t.tb.power = s.tb.power) (scan : t.tb.scanDue = s.tb.scanDue)
    (ps : t.ps = s.ps) (zm : t.zm = s.zm) (hu : t.hu = s.hu) (lines : t.au.lines = s.au.lines) (li : t.li = s.li)
    (pending : t.pending = s.pending) : Keeps s t :=
  ⟨pending, fun h => h.of_blocks (congrArg Scanner.probes ps) (congrArg ZoneMonitor.zones zm), fun h => h.of_lines lines,
    fun h => h.of_blocks power (fun _ due => scan.trans due) ps (congrArg ZoneMonitor.defrostActive zm)
      (fun z => by rw [State.zoneAt_congr (congrArg ZoneMonitor.zones zm)]; exact id)
      (fun c => by rw [State.compAt_congr (congrArg ZoneMonitor.comps zm)]; exact id) hu lines li⟩

/-! ### The evaluation of the lines -/

theorem keeps_evaluateLines (s : State) : Keeps s s.evaluateLines := by
  refine ⟨rfl, fun h => h.of_blocks rfl rfl, fun h i n => ?_, fun h backup => ?_⟩
  · obtain ⟨-, -, -, -, pulse⟩ := Line.evaluate_spec s.running (s.level (s.au.lines[i]).condition) s.au.lines[i]
    rw [State.line_evaluateLines]
    split at pulse
    · rw [pulse.1, pulse.2, Option.some.injEq]; omega
    · rw [pulse.1, pulse.2]; exact h i n
  · obtain ⟨gate, due, active, parts, sdo, blind, shut, still⟩ := h backup
    refine ⟨gate, due, active, parts, sdo, fun z h1 h5 => by rw [State.zoneAt_evaluateLines]; exact blind z h1 h5,
      fun c h1 h4 => by rw [State.compAt_evaluateLines]; exact shut c h1 h4, fun i => ?_⟩
    obtain ⟨-, -, -, latch, pulse⟩ := Line.evaluate_spec s.running (s.level (s.au.lines[i]).condition) s.au.lines[i]
    have idle : s.running = false := by
      have : s.tb.power = .backup := backup
      simp [State.running, this]
    simp only [idle, Bool.false_eq_true, false_and, or_false, if_false, (still i).1] at latch pulse
    rw [State.line_evaluateLines, idle]
    exact ⟨by simpa using latch, pulse.1.trans (still i).2⟩

theorem Keeps.evaluated {s t : State} (h : Keeps s t) : Upholds s t.evaluateLines :=
  ⟨h.trans (keeps_evaluateLines t), fun _ => t.linesCurrent_evaluateLines⟩

theorem upholds_event {holds : Bool} {f : State → State} {s : State} (h : holds = true → Keeps s (f s)) :
    Upholds s (s.event holds f) := by
  cases holds with
  | false => exact .refl s
  | true => exact (h rfl).evaluated

/-- An event of RUN. -/
theorem upholds_runEvent {holds : Bool} {f : State → State} {s : State} (h : s.running = true → Keeps s (f s)) :
    Upholds s (s.event (s.running && holds) f) := upholds_event fun taken => h (Bool.and_eq_true _ _ ▸ taken).1

theorem State.power_of_running {s : State} (h : s.running = true) : s.tb.power = .run := by
  simpa [State.running] using h

/-! ### Command transactions -/

/-- A change to the link and the model's own count alone, made in RUN. -/
theorem Upholds.of_link {s t : State} (run : s.tb.power = .run) (unmoved : Unmoved s t) (au : t.au = s.au)
    (pending : t.pending = s.pending) : Upholds s t := by
  obtain ⟨tb, ps, zm, -, ct, -, -⟩ := unmoved
  refine ⟨.of_run (by rw [tb, run]) (congrArg _ ps) (congrArg _ zm) (congrArg _ au) pending, fun h i => ?_⟩
  rw [State.level_congr _ tb ps zm ct (congrArg _ au), au]
  exact h i

/-- A command transaction keeps what its body keeps in RUN. -/
theorem upholds_receive {code : Byte} {fr : Frame} {body : State → State × Reply} (s : State)
    (h : ∀ m, m.tb.power = .run → Keeps m (body m).1) : Upholds s (s.receiveCommand code fr body) := by
  unfold State.receiveCommand
  split
  · exact .refl s
  next live =>
    have run : s.tb.power = .run := by
      simp only [Bool.not_eq_true', Bool.not_eq_false, State.linkLive, Bool.and_eq_true] at live
      exact State.power_of_running live.1
    split
    · exact .of_link run ⟨rfl, rfl, rfl, rfl, rfl, rfl, rfl⟩ rfl rfl
    · split
      · exact .of_link run ⟨rfl, rfl, rfl, rfl, rfl, rfl, rfl⟩ rfl rfl
      · dsimp only
        split
        · exact .of_link run ⟨rfl, rfl, rfl, rfl, rfl, rfl, rfl⟩ rfl rfl
        · have taken : Keeps s (s.takeTransaction fr.whole) := .of_run run rfl rfl rfl rfl
          have answered : ∀ (u : State) (r : Reply), Keeps u (u.setExecuting r) := fun u r =>
            ⟨rfl, fun hm => hm.of_blocks rfl rfl, fun hn => hn.of_lines rfl, fun hq backup => by
              obtain ⟨gate, due, active, parts, sdo, blind, shut, still⟩ := hq backup
              exact ⟨gate, due, active, parts, sdo, fun z h1 h5 => by rw [State.zoneAt_setExecuting]; exact blind z h1 h5,
                fun c h1 h4 => by rw [State.compAt_setExecuting]; exact shut c h1 h4, still⟩⟩
          exact ((taken.trans (h _ run)).trans (answered _ _)).evaluated

theorem keeps_command {checks : State → List (Bool × ResultCode)} {effect : State → State × Reply} {m : State}
    (h : Keeps m (effect m).1) : Keeps m (command checks effect m).1 := by
  unfold command
  split
  · exact .refl m
  · exact h

/-- A command whose effect leaves measurements and lines alone. -/
theorem upholds_command {code : Byte} {fr : Frame} {checks : State → List (Bool × ResultCode)}
    {effect : State → State × Reply} (s : State) (h : ∀ m, m.tb.power = .run → Keeps m (effect m).1) :
    Upholds s (s.receiveCommand code fr (command checks effect)) :=
  upholds_receive s fun m run => keeps_command (h m run)

end Sys2Proof.Machine

/-! Every command and event keeps the queue and the invariants of measurements, lines and BACKUP (O2, O9 to O11). -/

namespace Sys2Proof.Machine

/-! ### Measurements after a change to every probe or zone -/

theorem State.measured.of_all {s t : State} (h : s.measured)
    (probes : ∀ p, p < 8 → (s.probeAt p).Sound → (t.probeAt p).Sound)
    (zones : ∀ z, 1 ≤ z → z ≤ 5 → (s.zoneAt z).Sound → (t.zoneAt z).Sound) : t.measured := by
  rw [State.measured_iff] at h ⊢
  exact ⟨fun p hp => probes p hp (h.1 p hp), fun z h1 h5 => zones z h1 h5 (h.2 z h1 h5)⟩

theorem probeAt_reset (p : Nat) : State.reset.probeAt p = Probe.cold := by
  by_cases hp : p < 8 <;> simp [State.probeAt, State.reset, hp]

theorem zoneAt_reset (z : Nat) : State.reset.zoneAt z = Zone.initial := by
  cases z with
  | zero => rfl
  | succ n => by_cases hn : n < 5 <;> simp [State.zoneAt, State.reset, hn]

theorem reset_measured : State.reset.measured :=
  (State.measured_iff _).2 ⟨fun p _ => probeAt_reset p ▸ Probe.sound_of_empty rfl (Nat.zero_le 3),
    fun z _ _ => zoneAt_reset z ▸ Zone.initial_sound⟩

theorem State.measured.resetBlocks {s : State} (h : s.measured) (csnLow : Bool) : (s.resetBlocks csnLow).measured :=
  h.of_all (fun _ hp _ => State.probeAt_of_probes (s := s) (t := s.resetBlocks csnLow) (f := Probe.restart) rfl hp ▸
      Probe.restart_sound _)
    fun _ h1 h5 sound => State.zoneAt_of_zones (s := s) (t := s.resetBlocks csnLow) (f := Zone.pinReset s.now) rfl h1 h5 ▸
      sound.pinReset _

/-! ### Power and reset -/

theorem State.compAt_coldStart (inp : ColdInputs) (s : State) {n : Nat} (hn : n < 4) :
    (s.coldStart inp).compAt (n + 1) = coldCompartment inp n inp.doors[n] := by
  rw [State.coldStart, State.compAt_refreshLines]
  simp [State.compAt, hn]

theorem upholds_coldStart (inp : ColdInputs) (s : State) : Upholds s (s.coldStart inp) := by
  refine ⟨⟨rfl, fun _ => reset_measured.of_blocks rfl rfl, fun _ => State.pulsesNumbered_refreshLines _,
    fun _ backup => ?_⟩, fun _ => State.linesCurrent_refreshLines _⟩
  have dark : inp.vsup = false := by
    have power : (if inp.vsup = true then Power.run else .backup) = .backup := backup
    cases hv : inp.vsup with
    | false => rfl
    | true => rw [hv] at power; cases power
  have zone : ∀ z, (s.coldStart inp).zoneAt z = Zone.initial := fun z =>
    (State.zoneAt_congr (s := State.reset) (t := s.coldStart inp) rfl z).trans (zoneAt_reset z)
  refine ⟨rfl, rfl, ?_, rfl, rfl, fun z _ _ => by rw [zone]; rfl, fun c h1 h4 => ?_, fun i => ?_⟩
  · show (inp.vsup && inp.defrost) = false
    rw [dark]; rfl
  · obtain ⟨n, rfl⟩ : ∃ n, c = n + 1 := ⟨c - 1, by omega⟩
    rw [State.compAt_coldStart inp s (by omega)]
    simp [coldCompartment, dark, Compartment.initial]
  · rw [State.coldStart, State.line_refreshLines]
    exact ⟨rfl, rfl⟩

theorem upholds_unpowered (s : State) : Upholds s s.unpowered := by
  refine ⟨⟨rfl, fun _ => reset_measured.of_blocks rfl rfl, fun _ i n h => ?_,
    fun _ => State.backupQuiet_of_power (by show Power.off ≠ _; decide)⟩, fun _ i => ?_⟩
  · rw [State.line_unpowered] at h
    cases h
  · rw [State.line_unpowered]
    simp [Line.initial, State.level, State.unpowered, State.reset, Vector.toList_replicate]

theorem keeps_enterBackup (s : State) : Keeps s s.enterBackup := by
  have line : ∀ i : Fin 2, s.enterBackup.au.lines[i] = (s.au.lines[i]).backupEntry := fun i => by
    simp [State.enterBackup]
  have probe : ∀ p, p < 8 → s.enterBackup.probeAt p = { s.probeAt p with edges := none } := fun p hp =>
    State.probeAt_of_probes (f := fun p => { p with edges := none }) rfl hp
  have zone : ∀ z, 1 ≤ z → z ≤ 5 → s.enterBackup.zoneAt z = { s.zoneAt z with sensing := .blind } := fun z h1 h5 =>
    State.zoneAt_of_zones (f := fun z => { z with sensing := .blind }) rfl h1 h5
  refine ⟨rfl, fun h => h.of_all (fun p hp sound => probe p hp ▸ sound.of_fields rfl rfl)
    fun z h1 h5 sound => zone z h1 h5 ▸ sound.sensing _, fun _ i n h => ?_, fun _ _ => ?_⟩
  · rw [line] at h
    cases h
  · refine ⟨rfl, rfl, rfl, rfl, rfl, fun z h1 h5 => by rw [zone z h1 h5], fun c h1 h4 => ?_, fun i => by
      rw [line]; exact ⟨rfl, rfl⟩⟩
    rw [State.compAt_of_comps (s := s) (f := Compartment.backupEntry s.now) rfl h1 h4]
    refine ⟨rfl, ?_⟩
    show (Compartment.endEpisode _ _).episode = none
    unfold Compartment.endEpisode
    split
    · assumption
    · rfl

theorem upholds_pinReset {s : State} (csnLow : Bool) (run : s.tb.power = .run) : Upholds s (s.pinReset csnLow) := by
  refine ⟨⟨rfl, fun h => ?_, fun _ => State.pulsesNumbered_refreshLines _,
    fun _ => State.backupQuiet_of_power (by show s.tb.power ≠ _; rw [run]; decide)⟩,
    fun _ => State.linesCurrent_refreshLines _⟩
  have sampled : State.measured { s with tb := { s.tb.retry with resetLow := false } } := h.of_blocks rfl rfl
  exact (sampled.resetBlocks csnLow).of_blocks rfl rfl

/-- The main return, its doors' overruns raised in one step. -/
theorem State.mainReturn_eq (inp : ReturnInputs) (s : State) :
    s.mainReturn inp =
      ((((({ s with tb := returnTimeBase inp.resetLow s.tb }).raise .powerReturn).resetBlocks inp.csnLow).raise?
        (if s.returnOverruns inp then some .doorOverrun else none)).resample inp).refreshLines := by
  have overruns : ((({ s with tb := returnTimeBase inp.resetLow s.tb }).raise .powerReturn).resetBlocks
      inp.csnLow).returnOverruns inp = s.returnOverruns inp := rfl
  unfold State.mainReturn
  dsimp only
  rw [State.raise_ite, overruns]

theorem upholds_mainReturn (inp : ReturnInputs) (s : State) : Upholds s (s.mainReturn inp) := by
  rw [State.mainReturn_eq]
  refine ⟨⟨?_, fun h => ?_, fun _ => State.pulsesNumbered_refreshLines _, fun _ => State.backupQuiet_of_power ?_⟩,
    fun _ => State.linesCurrent_refreshLines _⟩
  · simp [State.resample, State.resetBlocks]
  · have returned : State.measured (State.raise .powerReturn { s with tb := returnTimeBase inp.resetLow s.tb }) :=
      h.of_blocks rfl rfl
    exact (returned.resetBlocks inp.csnLow).of_blocks (by simp [State.resample]) (by simp [State.resample])
  · simp [State.resample, State.resetBlocks, returnTimeBase]

/-! ### Scanner and zones -/

theorem keeps_scan {s : State} (run : s.running = true) :
    Keeps s { s with
      tb := { s.tb with scanDue := false }
      ps := { gateOpen := true, probes := s.ps.probes.mapIdx fun _ p => p.openGate } } := by
  refine ⟨rfl, fun h => h.of_all (fun p hp sound => ?_) (fun z _ _ sound => by cases z <;> exact sound),
    fun h => h.of_lines rfl,
    fun _ => State.backupQuiet_of_power (by show s.tb.power ≠ _; rw [State.power_of_running run]; decide)⟩
  rw [State.probeAt_of_probes (s := s) (f := Probe.openGate) rfl hp]
  exact sound.of_fields rfl rfl

theorem keeps_modifyProbe {f : Probe → Probe} (hf : ∀ q, q.Sound → (f q).Sound) {s : State} (run : s.tb.power = .run)
    (p : Nat) : Keeps s (s.modifyProbe p f) := by
  refine ⟨rfl, fun h => h.of_all (fun q _ sound => ?_) (fun z _ _ sound => by rwa [State.zoneAt_modifyProbe]),
    fun h => h.of_lines rfl, fun _ => State.backupQuiet_of_power (by show s.tb.power ≠ _; rw [run]; decide)⟩
  rw [State.probeAt_modifyProbe]
  split
  next here => exact hf _ (here.1 ▸ sound)
  next => exact sound

theorem keeps_closeGate_formZones {s : State} (run : s.tb.power = .run) : Keeps s s.closeGate.formZones := by
  obtain ⟨tb, zm, -, -, -, -, lines, -, -, pending, -⟩ := s.closeGate_stands
  refine ⟨pending, fun h => ?_, fun h => h.of_lines lines,
    fun _ => State.backupQuiet_of_power (by show s.closeGate.tb.power ≠ _; rw [tb, run]; decide)⟩
  have closed : s.closeGate.measured := h.of_all
    (fun p hp sound => s.probeAt_closeGate hp ▸ sound.closeGate)
    (fun z _ _ sound => by rwa [State.zoneAt_congr (congrArg ZoneMonitor.zones zm)])
  have probes := ((State.measured_iff _).1 closed).1
  refine closed.of_all (fun p _ sound => sound) fun z h1 h5 sound => ?_
  rw [State.zoneAt_formZones _ h1 h5]
  split
  · refine sound.gateClose _ (handOverSet_inRange (fun q hq => ?_) z)
    obtain ⟨p, hp, rfl⟩ := State.mem_probes.1 hq
    exact probes p hp
  · exact sound

/-- A change to the zones that keeps their figures and every BLIND zone. -/
theorem keeps_modifyZone {f : Zone → Zone} (sound : ∀ x, x.Sound → (f x).Sound)
    (blind : ∀ x : Zone, x.sensing = .blind → (f x).sensing = .blind) (s : State) (z : Nat) :
    Keeps s (s.modifyZone z f) :=
  ⟨rfl, fun h => h.of_all (fun _ _ hp => hp) (fun _ _ _ hy => State.zoneAt_modifyZone_keeps sound z hy),
    fun h => h.of_lines rfl,
    fun h => h.of_blocks rfl (fun _ due => due) rfl rfl (fun _ hy => State.zoneAt_modifyZone_keeps blind z hy)
      (fun c => by rw [State.compAt_modifyZone]; exact id) rfl rfl rfl⟩

/-- A change to a compartment that opens no door and starts no episode. -/
theorem keeps_modifyComp {f : Compartment → Compartment}
    (shut : ∀ k, k.doorOpen = false ∧ k.episode = none → (f k).doorOpen = false ∧ (f k).episode = none) (s : State)
    (c : Nat) : Keeps s (s.modifyComp c f) :=
  ⟨rfl, fun h => h.of_blocks rfl rfl, fun h => h.of_lines rfl,
    fun h => h.of_blocks rfl (fun _ due => due) rfl rfl (fun z => by rw [State.zoneAt_modifyComp]; exact id)
      (fun _ hd => State.compAt_modifyComp_keeps shut c hd) rfl rfl rfl⟩

theorem keeps_raise (k : Kind) (s : State) : Keeps s (s.raise k) := .of_blocks rfl rfl rfl rfl rfl rfl rfl rfl

theorem keeps_expireHold (z : Nat) (s : State) : Keeps s (s.expireHold z) :=
  keeps_modifyZone (fun _ h => h.sensing _) (fun _ _ => rfl) s z

theorem keeps_expireDwell (c : Nat) (s : State) : Keeps s (s.expireDwell c) :=
  (keeps_modifyComp (f := fun k => { k with dwellFlag := true, dwellDeadline := none }) (fun _ h => h) s c).trans
    (keeps_raise _ _)

theorem keeps_expireAllowance (c : Nat) (s : State) : Keeps s (s.expireAllowance c) :=
  (keeps_modifyComp (f := fun k => { k with episode := k.episode.map fun e => { e with allowance := none } })
    (fun _ h => ⟨h.1, by simp [h.2]⟩) s c).trans (keeps_raise _ _)

/-! ### The table -/

theorem keeps_settle (h t : Nat) (s : State) : Keeps s (s.settle h t) := by
  obtain ⟨tb, ps, zm, -, -, -, -, -, hu, lines, li, -, pending⟩ := s.settle_stands h t
  exact .of_blocks (by rw [tb]) (by rw [tb]) ps zm hu lines li pending

theorem keeps_thaw (h t : Nat) (code : StepCode) (s : State) : Keeps s (s.thaw h t code) := by
  unfold State.thaw
  split
  · exact .refl s
  · split
    · exact .of_blocks (by simp) (by simp) (by simp) (by simp) (by simp) (by simp) (by simp) (by simp)
    all_goals exact .refl s

theorem keeps_lapse (h : Nat) (s : State) : Keeps s (s.lapse h) := by
  refine ((keeps_thaw h s.now .lapse s).trans ?_).trans (keeps_raise _ _)
  unfold State.markLapsed
  split
  · exact .refl _
  · exact .of_blocks rfl rfl rfl rfl rfl rfl rfl rfl

theorem keeps_takeExpiries (s : State) : Keeps s s.takeExpiries :=
  State.takeExpiries_induct (P := Keeps s) (fun z _ h _ => h.trans (keeps_expireHold z _))
    (fun c _ h _ => h.trans (keeps_expireDwell c _)) (fun c _ h _ => h.trans (keeps_expireAllowance c _))
    (fun k _ h _ => h.trans (keeps_lapse k _)) (.refl s)

/-- The advance of the clock leaves no scan due in BACKUP (R6). -/
theorem keeps_beginSecond (rc : Nat) (s : State) : Keeps s (s.beginSecond rc) := by
  have tb := (s.takeExpiries_stands).1
  refine (keeps_takeExpiries s).trans ⟨rfl, fun h => h.of_blocks rfl rfl, fun h => h.of_lines rfl, fun h => ?_⟩
  refine h.of_blocks (by rw [tb]; rfl) (fun backup _ => ?_) rfl rfl
    (fun z => by rw [State.zoneAt_congr (t := s.beginSecond rc) (s := s.takeExpiries) rfl]; exact id)
    (fun c => by rw [State.compAt_congr (t := s.beginSecond rc) (s := s.takeExpiries) rfl]; exact id) rfl rfl rfl
  rw [tb] at backup
  simp [State.beginSecond, TimeBase.second, backup]

theorem keeps_joinList (h : Nat) (c : Custody) (s : State) : Keeps s (s.joinList h c) :=
  .of_blocks (by simp) (by simp) (by simp) (by simp) (by simp) (by simp) (by simp) (by simp)

theorem keeps_unlisted (h : Nat) (r : Option Record) (s : State) : Keeps s ((s.setRecord h r).leaveLists h) :=
  .of_blocks rfl rfl rfl rfl rfl rfl rfl rfl

theorem keeps_carryOut (h : Nat) (code : StepCode) (after : Nat → Custody) (s : State) :
    Keeps s (s.carryOut h code after) := by
  unfold State.carryOut
  dsimp only
  split
  · exact keeps_settle _ _ s
  · exact (keeps_settle h s.now s).trans ((keeps_unlisted h _ _).trans (keeps_joinList _ _ _))

theorem keeps_makeRecord (h : Nat) (r : Record) (s : State) : Keeps s (s.makeRecord h r) := by
  unfold State.makeRecord
  refine Keeps.trans ?_ (keeps_joinList _ _ _)
  exact .of_blocks rfl rfl rfl rfl rfl rfl rfl rfl

theorem keeps_releaseEffect (h : Nat) (s : State) : Keeps s (s.releaseEffect h).1 := by
  unfold State.releaseEffect
  split
  · exact .refl s
  · exact .of_blocks rfl rfl rfl rfl rfl rfl rfl rfl

theorem keeps_handOffEffect (h : Nat) (s : State) : Keeps s (s.handOffEffect h).1 := by
  unfold State.handOffEffect
  dsimp only
  split
  · exact keeps_settle _ _ s
  · exact (keeps_settle _ _ s).trans (.of_blocks rfl rfl rfl rfl rfl rfl rfl rfl)

theorem keeps_confirmEffect (h : Nat) (s : State) : Keeps s (s.confirmEffect h).1 := by
  unfold State.confirmEffect
  split
  · exact .refl s
  · exact .of_blocks rfl rfl rfl rfl rfl rfl rfl rfl

theorem keeps_loadEffect (id : Word32) (prof comp : Byte) (s : State) : Keeps s (s.loadEffect id prof comp).1 := by
  unfold State.loadEffect
  split
  · exact .refl s
  · dsimp only
    exact keeps_makeRecord _ _ s

theorem keeps_clearBuffer {s : State} (run : s.tb.power = .run) : Keeps s s.clearBuffer := .of_run run rfl rfl rfl rfl

theorem keeps_adoptCommit {s : State} (run : s.tb.power = .run) : Keeps s s.adoptCommit.1 := by
  unfold State.adoptCommit
  split
  · dsimp only
    split
    · exact keeps_clearBuffer run
    · exact .refl s
  · unfold State.adoptEffect
    dsimp only
    split
    · refine (keeps_makeRecord _ _ s).trans (keeps_clearBuffer ?_)
      simpa [State.makeRecord] using run
    · exact .refl s
    · exact .refl s

/-! ### The lines -/

theorem keeps_modifyLine {f : Line → Line} {s : State} (run : s.tb.power = .run) (line : Nat)
    (hf : ∀ (l : Line) (n : Nat), (f l).pulseEnd = some n → l.pulseEnd = some n ∧ (f l).pulses = l.pulses) :
    Keeps s (s.modifyLine line f) := by
  refine ⟨rfl, fun h => h.of_blocks rfl rfl, fun h i n => ?_,
    fun _ => State.backupQuiet_of_power (by show s.tb.power ≠ _; rw [run]; decide)⟩
  rw [State.line_modifyLine]
  split
  · intro awaits
    obtain ⟨ran, count⟩ := hf _ _ awaits
    rw [count]
    exact h i n ran
  · exact h i n

theorem State.linesCurrent.of_levels {s t : State} (h : s.linesCurrent) (lines : t.au.lines = s.au.lines)
    (level : ∀ c, t.level c = s.level c) : t.linesCurrent := fun i => by
  rw [lines, level]
  exact h i

/-- A change to supply, RESETN, link and the model's own count alone. -/
theorem Upholds.of_pins {s t : State} (power : t.tb.power = s.tb.power) (degraded : t.tb.degraded = s.tb.degraded)
    (present : t.tb.presentCount = s.tb.presentCount) (scan : t.tb.scanDue = s.tb.scanDue) (ps : t.ps = s.ps)
    (zm : t.zm = s.zm) (ct : t.ct = s.ct) (hu : t.hu = s.hu) (au : t.au = s.au)
    (sdo : s.tb.power = .backup → s.li.sdo = none → t.li.sdo = none) (pending : t.pending = s.pending) :
    Upholds s t := by
  refine ⟨⟨pending, fun h => h.of_blocks (congrArg _ ps) (congrArg _ zm), fun h => h.of_lines (congrArg _ au),
    fun h backup => ?_⟩, fun h => h.of_levels (congrArg _ au) fun c =>
      State.level_of_blocks c degraded present ps zm ct (congrArg _ au)⟩
  rw [power] at backup
  obtain ⟨gate, due, active, parts, floats, blind, shut, still⟩ := h backup
  exact ⟨ps ▸ gate, scan.trans due, zm ▸ active, hu ▸ parts, sdo backup floats,
    fun z h1 h5 => by rw [State.zoneAt_congr (congrArg _ zm)]; exact blind z h1 h5,
    fun c h1 h4 => by rw [State.compAt_congr (congrArg _ zm)]; exact shut c h1 h4, by rw [au]; exact still⟩

end Sys2Proof.Machine

namespace Sys2Proof.Machine

/-! ### Every command and event -/

/-- The link events: they touch the link alone, and nothing while it is inert (R177, R183). -/
theorem upholds_linkEvent {s t : State} (h : s.linkLive = true → Unmoved s t ∧ t.au = s.au ∧ t.pending = s.pending) :
    Upholds s (if !s.linkLive then s else t) := by
  cases live : s.linkLive with
  | false => exact .refl s
  | true =>
    obtain ⟨unmoved, au, pending⟩ := h live
    exact .of_link (State.power_of_running (Bool.and_eq_true _ _ ▸ live).1) unmoved au pending

theorem upholds_supply {s : State} (vbak : Bool) : Upholds s { s with tb := { s.tb with vbak := vbak } } :=
  .of_pins rfl rfl rfl rfl rfl rfl rfl rfl rfl (fun _ floats => floats) rfl

theorem upholds_vsupLoss (s : State) : ∃ t, execVsupLoss s = .next t ∧ Upholds s t := by
  unfold execVsupLoss
  split
  · exact ⟨_, rfl, .refl s⟩
  · exact ⟨_, rfl, .refl s⟩
  · refine ⟨_, rfl, ?_⟩
    split
    · exact (keeps_enterBackup s).evaluated
    · exact upholds_unpowered s

theorem upholds_resetPin (lowMicros : Nat) (csnLow : Bool) (s : State) :
    ∃ t, execPinReset lowMicros csnLow s = .next t ∧ Upholds s t := by
  refine ⟨_, rfl, ?_⟩
  split
  next low =>
    have run : s.tb.power = .run := State.power_of_running (Bool.and_eq_true _ _ ▸ low).1
    have rises : ∀ n, Upholds s (State.resetnRise csnLow { s with freeCount := n }) := fun n =>
      .of_pins rfl rfl rfl rfl rfl rfl rfl rfl rfl (fun _ floats => floats) rfl
    split
    · exact upholds_pinReset csnLow run
    · dsimp only
      split
      · have counted : Upholds s { s with freeCount := s.freeCount + 1 } :=
          .of_pins rfl rfl rfl rfl rfl rfl rfl rfl rfl (fun _ floats => floats) rfl
        have reset := upholds_pinReset (s := { s with freeCount := s.freeCount + 1 }) csnLow run
        exact ⟨counted.toKeeps.trans reset.toKeeps, reset.current ∘ counted.current⟩
      · exact rises _
  next => exact .refl s

theorem keeps_endRetry (found : Bool) (s : State) : Keeps s (s.endRetry found) := by
  cases found <;> exact .of_blocks rfl rfl rfl rfl rfl rfl rfl rfl

theorem keeps_openDoor {s : State} (run : s.tb.power = .run) (c : Nat) : Keeps s (s.openDoor c) := by
  unfold State.openDoor
  rw [State.raise_ite]
  exact .of_run (by simpa using run) (by simp) (by simp) (by simp) (by simp)

theorem keeps_defrostRise {s : State} (run : s.tb.power = .run) : Keeps s s.defrostRise := by
  unfold State.defrostRise
  rw [State.raise_ite]
  exact .of_run (by simpa using run) (by simp) (by simp) (by simp) (by simp)

/-- Whatever the command or event, its next state keeps the queue and the invariants of this file. -/
theorem exec_upholds (i : Instr) (s : State) : ∃ t, exec i s = .next t ∧ Upholds s t := by
  cases i with
  | coldStart inp =>
    refine ⟨_, rfl, ?_⟩
    split
    · exact upholds_coldStart inp s
    · exact .refl s
  | vbakLoss =>
    simp only [exec, execVbakLoss]
    split
    · exact ⟨_, rfl, .refl s⟩
    · exact ⟨_, rfl, upholds_supply false⟩
    · exact ⟨_, rfl, upholds_unpowered s⟩
  | vbakRestore =>
    simp only [exec, execVbakRestore]
    split
    · exact ⟨_, rfl, .refl s⟩
    · exact ⟨_, rfl, upholds_supply true⟩
    · exact ⟨_, rfl, .refl s⟩
  | vsupLoss => exact upholds_vsupLoss s
  | vsupReturn inp =>
    simp only [exec, execVsupReturn]
    split
    · exact ⟨_, rfl, .refl s⟩
    · exact ⟨_, rfl, .refl s⟩
    · exact ⟨_, rfl, upholds_mainReturn inp s⟩
  | resetnLow =>
    refine ⟨_, rfl, ?_⟩
    split
    · exact .of_pins rfl rfl rfl rfl rfl rfl rfl rfl rfl (fun _ _ => rfl) rfl
    · exact .refl s
  | pinReset lowMicros csnLow => exact upholds_resetPin lowMicros csnLow s
  | retryWindowEnd found => exact ⟨_, rfl, upholds_event fun _ => keeps_endRetry found s⟩
  | crystalStop => exact ⟨_, rfl, upholds_event fun _ => .of_blocks rfl rfl rfl rfl rfl rfl rfl rfl⟩
  | secondEvent rc => exact ⟨_, rfl, upholds_event fun _ => keeps_beginSecond rc s⟩
  | scan => exact ⟨_, rfl, upholds_runEvent keeps_scan⟩
  | probeRisingEdge p =>
    exact ⟨_, rfl, upholds_runEvent fun run =>
      keeps_modifyProbe (f := Probe.edge) (fun _ h => h.of_fields rfl rfl) (State.power_of_running run) p⟩
  | gateClose => exact ⟨_, rfl, upholds_runEvent fun run => keeps_closeGate_formZones (State.power_of_running run)⟩
  | tick => exact ⟨_, rfl, upholds_event fun _ => .of_blocks rfl rfl rfl rfl rfl rfl rfl rfl⟩
  | tickPassVisit =>
    simp only [exec, execTickPassVisit]
    split
    · exact ⟨_, rfl, .refl s⟩
    · exact ⟨_, rfl, upholds_event fun _ => (keeps_settle _ _ s).trans (.of_blocks rfl rfl rfl rfl rfl rfl rfl rfl)⟩
  | holdExpiry z => exact ⟨_, rfl, upholds_event fun _ => keeps_expireHold z s⟩
  | doorInputChange c level =>
    exact ⟨_, rfl, upholds_event fun _ => keeps_modifyComp (by intro k h; exact h) s c⟩
  | doorOpen c =>
    refine ⟨_, rfl, upholds_event fun stable => keeps_openDoor (State.power_of_running ?_) c⟩
    simp only [State.doorStable, Bool.and_eq_true] at stable
    exact stable.1.1.1.1
  | doorClose c =>
    exact ⟨_, rfl, upholds_event fun _ => keeps_modifyComp (by intro k h; exact ⟨rfl, h.2⟩) s c⟩
  | dwellExpiry c => exact ⟨_, rfl, upholds_event fun _ => keeps_expireDwell c s⟩
  | defrostInputChange level =>
    exact ⟨_, rfl, upholds_runEvent fun run => .of_run (State.power_of_running run) rfl rfl rfl rfl⟩
  | defrostRise =>
    refine ⟨_, rfl, upholds_event fun stable => keeps_defrostRise (State.power_of_running ?_)⟩
    simp only [State.defrostStable, Bool.and_eq_true] at stable
    exact stable.1.1.1
  | defrostFall =>
    refine ⟨_, rfl, upholds_event fun stable => .of_run (State.power_of_running (s := s) ?_) rfl rfl rfl rfl⟩
    simp only [State.defrostStable, Bool.and_eq_true] at stable
    exact stable.1.1.1
  | allowanceExpiry c => exact ⟨_, rfl, upholds_event fun _ => keeps_expireAllowance c s⟩
  | deadlineLapse h => exact ⟨_, rfl, upholds_event fun _ => keeps_lapse h s⟩
  | pulseEnd e =>
    exact ⟨_, rfl, upholds_runEvent fun run =>
      keeps_modifyLine (State.power_of_running run) _ fun _ _ h => by cases h⟩
  | frameDiscarded w =>
    refine ⟨_, rfl, upholds_linkEvent fun _ => ?_⟩
    split_ifs <;> exact ⟨⟨rfl, rfl, rfl, rfl, rfl, rfl, rfl⟩, rfl, rfl⟩
  | shortTransaction b =>
    refine ⟨_, rfl, upholds_linkEvent fun _ => ?_⟩
    split_ifs <;> exact ⟨⟨rfl, rfl, rfl, rfl, rfl, rfl, rfl⟩, rfl, rfl⟩
  | responseRead n =>
    refine ⟨_, rfl, upholds_linkEvent fun _ => ?_⟩
    split_ifs <;> exact ⟨⟨rfl, rfl, rfl, rfl, rfl, rfl, rfl⟩, rfl, rfl⟩
  | responseReady =>
    simp only [exec, execResponseReady]
    split
    · exact ⟨_, rfl, .refl s⟩
    · exact ⟨_, rfl, .of_pins rfl rfl rfl rfl rfl rfl rfl rfl rfl (fun _ floats => floats) rfl⟩
    · exact ⟨_, rfl, .of_pins rfl rfl rfl rfl rfl rfl rfl rfl rfl (fun _ floats => floats) rfl⟩
    · exact ⟨_, rfl, .refl s⟩
  | unknownCommand code fr => exact ⟨_, rfl, upholds_receive s fun m _ => .refl m⟩
  | status fr => exact ⟨_, rfl, upholds_receive s fun m _ => keeps_takeExpiries m⟩
  | attention fr => exact ⟨_, rfl, upholds_receive s fun m run => .of_run run rfl rfl rfl rfl⟩
  | find fr id =>
    refine ⟨_, rfl, upholds_receive s fun m _ => ?_⟩
    split <;> exact .refl m
  | view fr h => exact ⟨_, rfl, upholds_command s fun m _ => .refl m⟩
  | survey fr f c v h => exact ⟨_, rfl, upholds_command s fun m _ => .refl m⟩
  | zone fr z => exact ⟨_, rfl, upholds_command s fun m _ => .refl m⟩
  | door fr c => exact ⟨_, rfl, upholds_command s fun m run => .of_run run rfl rfl rfl rfl⟩
  | probe fr p => exact ⟨_, rfl, upholds_command s fun m _ => .refl m⟩
  | profile fr i => exact ⟨_, rfl, upholds_command s fun m _ => .refl m⟩
  | fixTick fr v => exact ⟨_, rfl, upholds_command s fun m run => .of_run run rfl rfl rfl rfl⟩
  | setProbe fr p z zero gain =>
    exact ⟨_, rfl, upholds_command s fun m run => keeps_modifyProbe (fun q _ => q.configure_sound _ _ _) run _⟩
  | setZone fr z lag hold cap il dwell a mx sp =>
    exact ⟨_, rfl, upholds_command s fun m run =>
      (keeps_modifyZone (f := fun x => { x with lag := lag.toNat, hold := hold.toNat })
        (fun _ h => ⟨h.airMax, h.airMin, h.warm, h.cold⟩) (fun _ h => h) m z.toNat).trans (.of_run run rfl rfl rfl rfl)⟩
  | setDefrostMask fr mask => exact ⟨_, rfl, upholds_command s fun m run => .of_run run rfl rfl rfl rfl⟩
  | setHandover fr w => exact ⟨_, rfl, upholds_command s fun m run => .of_run run rfl rfl rfl rfl⟩
  | setAlert fr l c md =>
    exact ⟨_, rfl, upholds_command s fun m run => keeps_modifyLine run _ fun _ _ h => by cases h⟩
  | ackAlert fr l =>
    exact ⟨_, rfl, upholds_command s fun m run => keeps_modifyLine run _ fun _ _ h => ⟨h, rfl⟩⟩
  | defineProfile fr i u l bh bl ba => exact ⟨_, rfl, upholds_command s fun m run => .of_run run rfl rfl rfl rfl⟩
  | clearProfile fr i => exact ⟨_, rfl, upholds_command s fun m run => .of_run run rfl rfl rfl rfl⟩
  | load fr id p c => exact ⟨_, rfl, upholds_command s fun m _ => keeps_loadEffect id p c m⟩
  | shift fr h id e d => exact ⟨_, rfl, upholds_command s fun m _ => keeps_carryOut _ _ _ m⟩
  | stage fr h id e => exact ⟨_, rfl, upholds_command s fun m _ => keeps_carryOut _ _ _ m⟩
  | restow fr h id c => exact ⟨_, rfl, upholds_command s fun m _ => keeps_carryOut _ _ _ m⟩
  | deliver fr h id => exact ⟨_, rfl, upholds_command s fun m _ => keeps_carryOut h.toNat .deliver (fun _ => .closed .delivered) m⟩
  | writeOff fr h id => exact ⟨_, rfl, upholds_command s fun m _ => keeps_carryOut h.toNat .writeOff (fun _ => .closed .writtenOff) m⟩
  | release fr h id => exact ⟨_, rfl, upholds_command s fun m _ => keeps_releaseEffect _ m⟩
  | handOff fr h id => exact ⟨_, rfl, upholds_command s fun m _ => keeps_handOffEffect _ m⟩
  | exportPart fr h id k => exact ⟨_, rfl, upholds_command s fun m _ => .refl m⟩
  | confirm fr h id => exact ⟨_, rfl, upholds_command s fun m _ => keeps_confirmEffect _ m⟩
  | recallRecord fr h id => exact ⟨_, rfl, upholds_command s fun m _ => keeps_thaw _ _ _ m⟩
  | adoptPart fr k bytes => exact ⟨_, rfl, upholds_command s fun m run => .of_run run rfl rfl rfl rfl⟩
  | adoptCommit fr => exact ⟨_, rfl, upholds_receive s fun m run => keeps_adoptCommit run⟩
  | adoptAbort fr => exact ⟨_, rfl, upholds_receive s fun m run => keeps_clearBuffer run⟩

/-! ### The obligations -/

/-- A step takes the front of the queue and keeps what `exec` keeps; an idle one keeps everything. -/
theorem step_upholds {s t : State} (h : step s = .next t) :
    (s.measured → t.measured) ∧ (s.pulsesNumbered → t.pulsesNumbered) ∧ (s.backupQuiet → t.backupQuiet) ∧
      (s.linesCurrent → t.linesCurrent) := by
  unfold step at h
  split at h
  · cases h
    exact ⟨id, id, id, id⟩
  next c rest _ =>
    obtain ⟨u, taken, upholds⟩ := exec_upholds c { s with pending := rest }
    rw [taken] at h
    cases h
    refine ⟨fun hs => upholds.measured (hs.of_blocks rfl rfl), fun hs => upholds.numbered (hs.of_lines rfl),
      fun hs => upholds.quiet ?_, fun hs => upholds.current (hs.of_levels rfl fun c => ?_)⟩
    · exact hs.of_blocks rfl (fun _ due => due) rfl rfl (fun z => by cases z <;> exact id)
        (fun c => by cases c <;> exact id) rfl rfl rfl
    · exact State.level_congr c rfl rfl rfl rfl rfl

/-- Settles O2: whatever the command or event, `exec` gives a next state with the queue it was given. -/
theorem noCommandStopsThePart : Obligations.NoCommandStopsThePart := fun i s => by
  obtain ⟨t, taken, upholds⟩ := exec_upholds i s
  exact ⟨t, taken, upholds.pending⟩

/-- Settles O9: readings are clamped, and every other figure is a reading, a mean of readings or a step between two. -/
theorem stepKeepsMeasurementsInRange : Obligations.StepKeepsMeasurementsInRange := fun _ _ measured stepped =>
  (step_upholds stepped).1 measured

/-- Settles O10: a step evaluates the lines, sets them afresh, or moves nothing a condition reads. -/
theorem stepKeepsTheLinesCurrent : Obligations.StepKeepsTheLinesCurrent :=
  ⟨fun _ _ current stepped => (step_upholds stepped).2.2.2 current,
    fun _ _ numbered stepped => (step_upholds stepped).2.1 numbered⟩

/-- Settles O11: what BACKUP silences stays silent in it, and the way into BACKUP silences it. -/
theorem stepKeepsBackupQuiet : Obligations.StepKeepsBackupQuiet := fun _ _ quiet stepped =>
  (step_upholds stepped).2.2.1 quiet

end Sys2Proof.Machine

/-! Decoding what was encoded (O14): the fields read back from their bytes, then one case per listed command. -/

namespace Sys2Proof.Machine

theorem word16At_bytes16 (w : Word16) : word16At (bytes16 w) 0 = w := by
  show w.extractLsb' 8 8 ++ w.extractLsb' 0 8 = w
  rw [BitVec.extractLsb'_append_extractLsb'_eq_extractLsb' (show 8 = 0 + 8 from rfl), BitVec.extractLsb'_eq_self]

theorem word32At_bytes32 (w : Word32) : word32At (bytes32 w) 0 = w := by
  show w.extractLsb' 24 8 ++ w.extractLsb' 16 8 ++ w.extractLsb' 8 8 ++ w.extractLsb' 0 8 = w
  rw [BitVec.extractLsb'_append_extractLsb'_eq_extractLsb' (show 24 = 16 + 8 from rfl),
    BitVec.extractLsb'_append_extractLsb'_eq_extractLsb' (show 16 = 8 + 8 from rfl),
    BitVec.extractLsb'_append_extractLsb'_eq_extractLsb' (show 8 = 0 + 8 from rfl), BitVec.extractLsb'_eq_self]

theorem partBytes_toList (k : Byte) (bytes : Vector Byte 16) : partBytes (k :: bytes.toList) 1 = bytes := by
  ext i hi
  simp [partBytes, byteAt, Nat.add_comm 1 i, hi]

/-- A command that 11.4 lists is sent as its code, its length and its payload, and read by its code. -/
theorem decodeTransaction_encodeCommand {i : Instr} {c : Byte} {n : Nat} (code : i.code? = some c) (nonzero : c ≠ 0)
    (length : (payloadBytes i).length = n) :
    decodeTransaction (encodeCommand i) 0 = decodeCommand c (Frame.exact n) (payloadBytes i) := by
  rw [encodeCommand, code]
  simp only [decodeTransaction, if_neg nonzero, List.length_cons, length, List.headD_cons, List.drop_one,
    List.tail_cons, Frame.exact, byte, Nat.add_comm 2 n]

/-- What O14 says of one command. -/
def DecodesBack (i : Instr) : Prop :=
  ∀ (c : Byte) (n : Nat), i.wellFormed = true → i.code? = some c → payloadLength? c = some n →
    i.frame? = some (Frame.exact n) → decodeTransaction (encodeCommand i) 0 = i

theorem DecodesBack.of_event {i : Instr} (h : i.code? = none) : DecodesBack i := fun c n _ hc => by
  rw [h] at hc
  cases hc

theorem DecodesBack.of_listed {i : Instr} {c : Byte} {n : Nat} (code : i.code? = some c)
    (listed : payloadLength? c = some n) (nonzero : c ≠ 0) (length : (payloadBytes i).length = n)
    (reads : i.frame? = some (Frame.exact n) → decodeCommand c (Frame.exact n) (payloadBytes i) = i) : DecodesBack i := by
  intro c' n' _ hc hn hf
  obtain rfl : c = c' := Option.some.inj (code.symm.trans hc)
  obtain rfl : n = n' := Option.some.inj (listed.symm.trans hn)
  rw [decodeTransaction_encodeCommand code nonzero length, reads hf]

theorem decodesBack (i : Instr) : DecodesBack i := by
  cases i with
  | coldStart _ | vbakLoss | vbakRestore | vsupLoss | vsupReturn _ | resetnLow | pinReset _ _ | retryWindowEnd _
  | crystalStop | secondEvent _ | scan | probeRisingEdge _ | gateClose | tick | tickPassVisit | holdExpiry _
  | doorInputChange _ _ | doorOpen _ | doorClose _ | dwellExpiry _ | defrostInputChange _ | defrostRise | defrostFall
  | allowanceExpiry _ | deadlineLapse _ | pulseEnd _ | frameDiscarded _ | shortTransaction _ | responseRead _
  | responseReady => exact .of_event rfl
  | unknownCommand code fr =>
    intro c n wellFormed hc hn
    cases hc
    simp [Instr.wellFormed, hn] at wellFormed
  | status _ | attention _ | view _ _ | zone _ _ | door _ _ | probe _ _ | profile _ _ | fixTick _ _
  | setDefrostMask _ _ | setAlert _ _ _ _ | ackAlert _ _ | clearProfile _ _ | adoptCommit _ | adoptAbort _ =>
    exact .of_listed rfl rfl (by decide) rfl fun framed => by cases framed; rfl
  | find fr id =>
    refine .of_listed rfl rfl (by decide) rfl fun framed => ?_
    cases framed
    exact congrArg (Instr.find _) (word32At_bytes32 id)
  | survey fr f c v start =>
    refine .of_listed rfl rfl (by decide) rfl fun framed => ?_
    cases framed
    exact congrArg (fun v => Instr.survey _ f c v start) (word32At_bytes32 v)
  | setProbe fr p z zero gain =>
    refine .of_listed rfl rfl (by decide) rfl fun framed => ?_
    cases framed
    show Instr.setProbe _ p z (word16At (bytes16 zero) 0) (word16At (bytes16 gain) 0) = _
    simp only [word16At_bytes16]
  | setZone fr z lag hold cap il dwell a m sp =>
    refine .of_listed rfl rfl (by decide) rfl fun framed => ?_
    cases framed
    show Instr.setZone _ z lag (word16At (bytes16 hold) 0) cap il (word16At (bytes16 dwell) 0) a
      (word16At (bytes16 m) 0) (word16At (bytes16 sp) 0) = _
    simp only [word16At_bytes16]
  | setHandover fr w =>
    refine .of_listed rfl rfl (by decide) rfl fun framed => ?_
    cases framed
    exact congrArg (Instr.setHandover _) (word16At_bytes16 w)
  | defineProfile fr i u l bh bl ba =>
    refine .of_listed rfl rfl (by decide) rfl fun framed => ?_
    cases framed
    show Instr.defineProfile _ i (word16At (bytes16 u) 0) (word16At (bytes16 l) 0) (word32At (bytes32 bh) 0)
      (word32At (bytes32 bl) 0) (word32At (bytes32 ba) 0) = _
    simp only [word16At_bytes16, word32At_bytes32]
  | load fr id p c =>
    refine .of_listed rfl rfl (by decide) rfl fun framed => ?_
    cases framed
    exact congrArg (fun id => Instr.load _ id p c) (word32At_bytes32 id)
  | shift fr h id e d =>
    refine .of_listed rfl rfl (by decide) rfl fun framed => ?_
    cases framed
    exact congrArg (fun id => Instr.shift _ h id e d) (word32At_bytes32 id)
  | stage fr h id x =>
    refine .of_listed rfl rfl (by decide) rfl fun framed => ?_
    cases framed
    exact congrArg (fun id => Instr.stage _ h id x) (word32At_bytes32 id)
  | restow fr h id x =>
    refine .of_listed rfl rfl (by decide) rfl fun framed => ?_
    cases framed
    exact congrArg (fun id => Instr.restow _ h id x) (word32At_bytes32 id)
  | exportPart fr h id x =>
    refine .of_listed rfl rfl (by decide) rfl fun framed => ?_
    cases framed
    exact congrArg (fun id => Instr.exportPart _ h id x) (word32At_bytes32 id)
  | deliver fr h id =>
    refine .of_listed rfl rfl (by decide) rfl fun framed => ?_
    cases framed
    exact congrArg (Instr.deliver _ h) (word32At_bytes32 id)
  | writeOff fr h id =>
    refine .of_listed rfl rfl (by decide) rfl fun framed => ?_
    cases framed
    exact congrArg (Instr.writeOff _ h) (word32At_bytes32 id)
  | release fr h id =>
    refine .of_listed rfl rfl (by decide) rfl fun framed => ?_
    cases framed
    exact congrArg (Instr.release _ h) (word32At_bytes32 id)
  | handOff fr h id =>
    refine .of_listed rfl rfl (by decide) rfl fun framed => ?_
    cases framed
    exact congrArg (Instr.handOff _ h) (word32At_bytes32 id)
  | confirm fr h id =>
    refine .of_listed rfl rfl (by decide) rfl fun framed => ?_
    cases framed
    exact congrArg (Instr.confirm _ h) (word32At_bytes32 id)
  | recallRecord fr h id =>
    refine .of_listed rfl rfl (by decide) rfl fun framed => ?_
    cases framed
    exact congrArg (Instr.recallRecord _ h) (word32At_bytes32 id)
  | adoptPart fr k bytes =>
    refine .of_listed rfl rfl (by decide) (by simp [payloadBytes]) fun framed => ?_
    cases framed
    exact congrArg (Instr.adoptPart _ k) (partBytes_toList k bytes)

/-- Settles O14: an event has no code and an unlisted code no length; a listed command's fields are read back from
their bytes. -/
theorem decodingInvertsEncoding : Obligations.DecodingInvertsEncoding := decodesBack

end Sys2Proof.Machine

/-! Power and reset (O15 to O19). -/

namespace Sys2Proof.Machine

/-! ### Command transactions and events of a part that takes none -/

/-- Every host command is its frame and its body put to the link (R177, R178). -/
theorem exec_command {i : Instr} {fr : Frame} (h : i.frame? = some fr) :
    ∃ code body, i.code? = some code ∧ ∀ s, exec i s = .next (s.receiveCommand code fr body) := by
  cases i with
  | coldStart _ | vbakLoss | vbakRestore | vsupLoss | vsupReturn _ | resetnLow | pinReset _ _ | retryWindowEnd _
  | crystalStop | secondEvent _ | scan | probeRisingEdge _ | gateClose | tick | tickPassVisit | holdExpiry _
  | doorInputChange _ _ | doorOpen _ | doorClose _ | dwellExpiry _ | defrostInputChange _ | defrostRise | defrostFall
  | allowanceExpiry _ | deadlineLapse _ | pulseEnd _ | frameDiscarded _ | shortTransaction _ | responseRead _
  | responseReady => cases h
  | status _ | attention _ | find _ _ | view _ _ | survey _ _ _ _ _ | zone _ _ | door _ _ | probe _ _ | profile _ _
  | fixTick _ _ | setProbe _ _ _ _ _ | setZone _ _ _ _ _ _ _ _ _ _ | setDefrostMask _ _ | setHandover _ _
  | setAlert _ _ _ _ | ackAlert _ _ | defineProfile _ _ _ _ _ _ _ | clearProfile _ _ | load _ _ _ _ | shift _ _ _ _ _
  | stage _ _ _ _ | restow _ _ _ _ | deliver _ _ _ | writeOff _ _ _ | release _ _ _ | handOff _ _ _
  | exportPart _ _ _ _ | confirm _ _ _ | recallRecord _ _ _ | adoptPart _ _ _ | adoptCommit _ | adoptAbort _
  | unknownCommand _ _ =>
    cases h
    exact ⟨_, _, rfl, fun _ => rfl⟩

theorem State.linkLive_eq_false {s : State} (h : s.tb.power ≠ .run ∨ s.tb.resetLow = true) : s.linkLive = false := by
  rcases h with h | h <;> simp [State.linkLive, State.running, h]

theorem exec_event_not {i : Instr} {s : State} {holds : Bool} {f : State → State}
    (hx : exec i s = .next (s.event holds f)) (h : holds = false) : exec i s = .next s := by
  rw [hx, State.event_not h]

/-- Without any supply nothing but a COLD_START with one does anything (R14; log entry 2). -/
theorem exec_off {s : State} (off : s.tb.power = .off) (i : Instr)
    (cold : ∀ inp, i = .coldStart inp → inp.vsup = false ∧ inp.vbak = false) : exec i s = .next s := by
  have dead : s.powered = false := by simp [State.powered, off]
  have idle : s.running = false := by simp [State.running, off]
  have inert : s.linkLive = false := State.linkLive_eq_false (.inl (by rw [off]; decide))
  cases hf : i.frame? with
  | some fr =>
    obtain ⟨code, body, -, hx⟩ := exec_command hf
    rw [hx, State.receiveCommand_inert inert]
  | none =>
    cases i with
    | coldStart inp =>
      obtain ⟨noVsup, noVbak⟩ := cold inp rfl
      simp [exec, execColdStart, noVsup, noVbak]
    | vbakLoss => simp only [exec, execVbakLoss, off]
    | vbakRestore => simp only [exec, execVbakRestore, off]
    | vsupLoss => simp only [exec, execVsupLoss, off]
    | vsupReturn inp => simp only [exec, execVsupReturn, off]
    | resetnLow => simp [exec, execResetnLow, idle]
    | pinReset us csnLow => simp [exec, execPinReset, idle]
    | retryWindowEnd found => exact exec_event_not rfl (by simp [dead])
    | crystalStop => exact exec_event_not rfl (by simp [dead])
    | secondEvent rc => exact exec_event_not rfl dead
    | scan => exact exec_event_not rfl (by simp [idle])
    | probeRisingEdge p => exact exec_event_not rfl (by simp [idle])
    | gateClose => exact exec_event_not rfl (by simp [idle])
    | tick => exact exec_event_not rfl (by simp [dead])
    | tickPassVisit =>
      simp only [exec, execTickPassVisit]
      split
      · rfl
      · rw [State.event_not dead]
    | holdExpiry z => exact exec_event_not rfl (by simp [State.holdDue, dead])
    | doorInputChange c level => exact exec_event_not rfl (by simp [idle])
    | doorOpen c => exact exec_event_not rfl (by simp [State.doorStable, idle])
    | doorClose c => exact exec_event_not rfl (by simp [State.doorStable, idle])
    | dwellExpiry c => exact exec_event_not rfl (by simp [State.dwellDue, dead])
    | defrostInputChange level => exact exec_event_not rfl (by simp [idle])
    | defrostRise => exact exec_event_not rfl (by simp [State.defrostStable, idle])
    | defrostFall => exact exec_event_not rfl (by simp [State.defrostStable, idle])
    | allowanceExpiry c => exact exec_event_not rfl (by simp [State.allowanceDue, dead])
    | deadlineLapse h => exact exec_event_not rfl (by simp [State.lapseDue, dead])
    | pulseEnd e => exact exec_event_not rfl (by simp [idle])
    | frameDiscarded w => simp [exec, execFrameDiscarded, inert]
    | shortTransaction b => simp [exec, execShortTransaction, inert]
    | responseRead n => simp [exec, execResponseRead, inert]
    | responseReady =>
      simp only [exec, execResponseReady, off]
      split <;> simp_all
    | _ => cases hf

/-! ### Cold start and the loss of all power -/

theorem compAt_coldStart_eq (inp : ColdInputs) (s : State) (c : Fin 4) :
    (s.coldStart inp).compAt (c.val + 1) =
      let level := inp.vsup && decide (c.val + 1 ≤ (s.coldStart inp).tb.presentCount) && inp.doors[c]
      ⟨12, false, 0, 30, 1800, 3600, level, false, level, none, 0, false, none, false, false, none, none⟩ := by
  rw [State.compAt_coldStart inp s c.isLt]
  rfl

theorem State.line_coldStart (inp : ColdInputs) (s : State) (i : Fin 2) :
    (s.coldStart inp).au.lines[i] = Line.initial s.au.lines[i].pulses := by
  rw [State.coldStart, State.line_refreshLines]
  simp [Line.initial, State.level, State.reset, Vector.toList_replicate]

theorem membersOf_reset (c : Nat) : State.reset.membersOf c = [] := by
  cases c with
  | zero => rfl
  | succ n => by_cases hn : n < 4 <;> simp [State.membersOf, State.reset, hn]

theorem profileAt_reset (i : Nat) : State.reset.profileAt i = Profile.undefined := by
  by_cases hi : i < 8 <;> simp [State.profileAt, State.reset, hi]

theorem exec_coldStart {inp : ColdInputs} (supplied : inp.vsup = true ∨ inp.vbak = true) (s : State) :
    exec (.coldStart inp) s = .next (s.coldStart inp) := by
  show Host.Outcome.next (if inp.vsup || inp.vbak then s.coldStart inp else s) = _
  rw [if_pos (by simpa using supplied)]

/-- Settles O15: each block of the cold start is the reset's, but for the figures the pins and the crystal give. -/
theorem coldStartGivesInitialValues : Obligations.ColdStartGivesInitialValues := by
  refine fun inp s supplied => ⟨s.coldStart inp, exec_coldStart supplied s, rfl, rfl, rfl, rfl, rfl, rfl, rfl,
    fun run => ?run, fun dark => ?dark, fun found => ?found, fun lost => ?lost, rfl, rfl, rfl, rfl, ?straps, rfl,
    fun p _ => ?probe, fun z _ _ => ?zone, compAt_coldStart_eq inp s, rfl, fun i _ => ?profile, fun h => ?record, rfl, rfl,
    fun c => ?members, rfl, rfl, rfl, s.line_coldStart inp, rfl⟩
  case run => exact ⟨by simp [State.coldStart, coldTimeBase, run], by simp [State.coldStart, coldTimeBase, run]⟩
  case dark => exact ⟨by simp [State.coldStart, coldTimeBase, dark], by simp [State.coldStart, coldTimeBase, dark]⟩
  case found => exact ⟨by simp [State.coldStart, coldTimeBase, found], by simp [State.coldStart, coldTimeBase, found]⟩
  case lost => exact ⟨by simp [State.coldStart, coldTimeBase, lost], by simp [State.coldStart, coldTimeBase, lost]⟩
  case straps =>
    show strapCount inp.zsel1 inp.zsel0 = _
    cases inp.zsel1 <;> cases inp.zsel0 <;> rfl
  case probe => exact (State.probeAt_congr (s := State.reset) rfl p).trans (probeAt_reset p)
  case zone => exact (State.zoneAt_congr (s := State.reset) (t := s.coldStart inp) rfl z).trans (zoneAt_reset z)
  case profile => exact (State.profileAt_congr (s := State.reset) rfl i).trans (profileAt_reset i)
  case record => exact (State.record?_congr (s := State.reset) rfl h).trans (State.record?_reset h)
  case members =>
    exact (State.membersOf_congr (s := State.reset) (t := s.coldStart inp) rfl c).trans (membersOf_reset c)

/-- A cold start carries over the queue and the model's own counts alone. -/
theorem coldStart_forgets (inp : ColdInputs) (s s' : State) :
    s'.coldStart inp =
      { s.coldStart inp with
        au :=
          { (s.coldStart inp).au with
            lines := Vector.ofFn fun i : Fin 2 =>
              { (s.coldStart inp).au.lines[i] with pulses := s'.au.lines[i].pulses } }
        freeCount := s'.freeCount
        pending := s'.pending } := by
  have lines : (s'.coldStart inp).au.lines = Vector.ofFn fun i : Fin 2 =>
      { (s.coldStart inp).au.lines[i] with pulses := s'.au.lines[i].pulses } := by
    ext1 i hi
    rw [Vector.getElem_ofFn, s.line_coldStart inp ⟨i, hi⟩]
    exact s'.line_coldStart inp ⟨i, hi⟩
  rw [← lines]
  rfl

/-- Settles O16: the supply alone in RUN, all power lost otherwise, nothing carried through a cold start, and nothing
done without a supply. -/
theorem backupSupplyAndLossOfAllPower : Obligations.BackupSupplyAndLossOfAllPower := by
  refine ⟨fun s run => ⟨?loss, ?restore⟩, fun s lost => ⟨s.unpowered, ?dead, rfl, fun h => ?gone, rfl, rfl, fun i => ?count⟩,
    fun inp s s' _ supplied => ⟨s.coldStart inp, exec_coldStart supplied s, ?forgets⟩, fun s i off => exec_off off i⟩
  case loss => simp only [exec, execVbakLoss, run]
  case restore => simp only [exec, execVbakRestore, run]
  case dead =>
    rcases lost with backup | ⟨run, absent⟩
    · simp only [backup, if_true, exec, execVbakLoss]
    · simp [run, absent, exec, execVsupLoss]
  case gone => exact (State.record?_congr (s := State.reset) rfl h).trans (State.record?_reset h)
  case count => rw [State.line_unpowered]; rfl
  case forgets => rw [exec_coldStart supplied, coldStart_forgets inp s s']

end Sys2Proof.Machine

/-! Backup entry, main return and pin reset (O17 to O19). -/

namespace Sys2Proof.Machine

/-! ### Doors and episodes -/

theorem Opening.complete_eq (now : Nat) (o : Opening) :
    o.complete now = { o with duration := some (o.duration.getD (now - o.openAt)) } := by
  unfold Opening.complete
  split
  next absent => rw [absent]; rfl
  next d present => rw [present]; cases o; simp_all

theorem Compartment.openDoor_eq (now : Nat) (c : Compartment) :
    c.openDoor now =
      { c with
        doorOpen := true
        overrun := c.overrun || c.opening.any fun o => !o.reported
        opening := some ⟨now, none, false⟩
        openings := min (c.openings + 1) 65535
        dwellDeadline := if c.dwellLimit = 0 then none else some (now + c.dwellLimit) } := by
  simp only [Compartment.openDoor, openOverruns, satAdd, Nat.pos_iff_ne_zero, ite_not]

theorem Compartment.closeDoor_eq (now : Nat) (c : Compartment) :
    c.closeDoor now =
      { c with
        doorOpen := false
        dwellFlag := false
        dwellDeadline := none
        opening := c.opening.map fun o => { o with duration := some (o.duration.getD (now - o.openAt)) } } := by
  unfold Compartment.closeDoor
  rw [show Opening.complete now = _ from funext (Opening.complete_eq now)]

theorem Compartment.endEpisode_eq (now : Nat) (c : Compartment) :
    c.endEpisode now =
      { c with episode := none, previousEnd := if c.episode.isSome then some now else c.previousEnd } := by
  unfold Compartment.endEpisode
  split
  next absent => cases c; simp_all
  next e present => rw [present]; rfl

/-- The backup entry of a compartment, its door and its episode apart (R59). -/
theorem Compartment.backupEntry_eq (now : Nat) (c : Compartment) :
    c.backupEntry now =
      { (if c.doorOpen then c.closeDoor now else c) with
        episode := none
        previousEnd := if c.episode.isSome then some now else c.previousEnd
        doorOpen := false
        debouncing := false } := by
  unfold Compartment.backupEntry
  dsimp only
  rw [Compartment.endEpisode_eq]
  split <;> rfl

/-! ### Backup entry -/

theorem exec_vsupLoss {s : State} (run : s.tb.power = .run) (supplied : s.tb.vbak = true) :
    exec .vsupLoss s = .next s.enterBackup.evaluateLines := by
  simp only [exec, execVsupLoss, run, supplied, if_true]

theorem State.line_enterBackup (s : State) (i : Fin 2) :
    let t := s.enterBackup.evaluateLines
    t.au.lines[i].condition = s.au.lines[i].condition ∧ t.au.lines[i].mode = s.au.lines[i].mode ∧
      t.au.lines[i].reference = t.level s.au.lines[i].condition ∧ t.au.lines[i].latch = false ∧
      t.au.lines[i].pulseEnd = none := by
  intro t
  have entered : s.enterBackup.au.lines[i] = (s.au.lines[i]).backupEntry := by simp [State.enterBackup]
  obtain ⟨condition, mode, reference, latch, pulse⟩ :=
    Line.evaluate_spec false (s.enterBackup.level s.au.lines[i].condition) (s.au.lines[i]).backupEntry
  have line : t.au.lines[i] = (s.au.lines[i]).backupEntry.evaluate false (s.enterBackup.level s.au.lines[i].condition) := by
    rw [State.line_evaluateLines, entered]
    rfl
  rw [line]
  refine ⟨condition, mode, reference.trans (State.level_evaluateLines _ _).symm, ?_, ?_⟩
  · simpa [Line.backupEntry] using latch
  · simpa [Line.backupEntry] using pulse.1

/-- Settles O17: block by block what each takes at backup entry, the lines evaluated outside RUN. -/
theorem vsupLossEntersBackup : Obligations.VsupLossEntersBackup := by
  intro s run supplied
  have idle : s.enterBackup.evaluateLines.running = false := rfl
  refine ⟨s.enterBackup.evaluateLines, exec_vsupLoss run supplied, rfl, rfl, fun p hp => ?probe, fun z h1 h5 => ?zone,
    fun c h1 h4 => ?comp, rfl, rfl, rfl, rfl, rfl, rfl, s.line_enterBackup, rfl, rfl, fun i => rfl, fun csnLow => ?sdo,
    rfl, rfl, rfl⟩
  case probe => exact State.probeAt_of_probes (f := fun p => { p with edges := none }) rfl hp
  case zone => exact State.zoneAt_of_zones (f := fun z => { z with sensing := .blind }) rfl h1 h5
  case comp =>
    rw [State.compAt_of_comps (s := s) (f := Compartment.backupEntry s.now) rfl h1 h4, Compartment.backupEntry_eq]
    cases hopen : (s.compAt c).doorOpen
    · simp [State.now]
    · simp [Compartment.closeDoor_eq, State.now]
  case sdo => simp [State.sdoFloats, State.linkLive, idle]

/-! ### Main return -/

theorem exec_vsupReturn {s : State} (backup : s.tb.power = .backup) (inp : ReturnInputs) :
    exec (.vsupReturn inp) s = .next (s.mainReturn inp) := by
  simp only [exec, execVsupReturn, backup]

theorem Zone.pinReset_blind {z : Zone} (blind : z.sensing = .blind) (now : Nat) : z.pinReset now = z := by
  simp only [Zone.pinReset, blind]

theorem State.zoneAt_resetBlocks (csnLow : Bool) (s : State) {z : Nat} (h1 : 1 ≤ z) (h5 : z ≤ 5) :
    (s.resetBlocks csnLow).zoneAt z = (s.zoneAt z).pinReset s.now :=
  State.zoneAt_of_zones (f := Zone.pinReset s.now) rfl h1 h5

theorem State.probeAt_resetBlocks (csnLow : Bool) (s : State) {p : Nat} (hp : p < 8) :
    (s.resetBlocks csnLow).probeAt p = (s.probeAt p).restart := State.probeAt_of_probes (f := Probe.restart) rfl hp

@[simp] theorem State.zoneAt_resample (inp : ReturnInputs) (s : State) (z : Nat) :
    (s.resample inp).zoneAt z = s.zoneAt z := State.zoneAt_congr rfl z

theorem State.compAt_mainReturn (inp : ReturnInputs) (s : State) (c : Fin 4) :
    (s.mainReturn inp).compAt (c.val + 1) =
      if s.compPresent (c.val + 1) then returnCompartment s.tb.trip inp.doors[c] (s.compAt (c.val + 1))
      else s.compAt (c.val + 1) := by
  have door : (inp.doors[c.val + 1 - 1]?).getD false = inp.doors[c] := by simp
  rw [State.mainReturn_eq, State.compAt_refreshLines, State.compAt_resample, State.compAt_raise?, door,
    State.compPresent_raise?]
  rw [State.now, State.raise?_tb]
  rfl

theorem State.returnOverruns_iff (inp : ReturnInputs) (s : State) :
    s.returnOverruns inp = true ↔
      ∃ c : Fin 4, s.compPresent (c.val + 1) = true ∧ inp.doors[c] = true ∧
        ∃ o, (s.compAt (c.val + 1)).opening = some o ∧ o.reported = false := by
  have overruns : ∀ c, openOverruns (s.compAt c) = true ↔ ∃ o, (s.compAt c).opening = some o ∧ o.reported = false := by
    intro c
    simp [openOverruns, Option.any_eq_true]
  unfold State.returnOverruns
  rw [List.any_eq_true]
  constructor
  · rintro ⟨c, hc, holds⟩
    simp only [Bool.and_eq_true, overruns] at holds
    obtain ⟨⟨present, door⟩, reported⟩ := holds
    obtain ⟨n, rfl, hn⟩ : ∃ n, c = n + 1 ∧ n < 4 := ⟨c - 1, by simp at hc; omega, by simp at hc; omega⟩
    exact ⟨⟨n, hn⟩, present, by simpa [hn] using door, reported⟩
  · rintro ⟨c, present, door, reported⟩
    refine ⟨c.val + 1, by have := c.isLt; simp; omega, ?_⟩
    simp only [Bool.and_eq_true, overruns]
    exact ⟨⟨present, by simpa using door⟩, reported⟩

/-- Settles O18: the main return is the time base's return, the pin reset of the blocks, the doors sampled afresh and the
lines set afresh. -/
theorem mainReturnEntersRun : Obligations.MainReturnEntersRun := by
  intro inp s backup
  have eq := s.mainReturn_eq inp
  have run : (s.mainReturn inp).tb.power = .run := by
    rw [eq]; simp [State.resample, State.resetBlocks, returnTimeBase]
  have kinds : ∀ x, x ∈ (s.mainReturn inp).au.attention ↔
      x ∈ s.au.attention ∨ x = .powerReturn ∨ (x = .doorOverrun ∧ s.returnOverruns inp = true) := by
    intro x
    rw [eq]
    show x ∈ (State.raise? _ _).au.attention ↔ _
    rw [State.mem_raise?]
    show x ∈ raiseIn _ _ ∨ _ ↔ _
    rw [mem_raiseIn]
    cases s.returnOverruns inp <;> simp [eq_comm] <;> tauto
  refine ⟨s.mainReturn inp, exec_vsupReturn backup inp, ?tb, ?gate, fun p hp => ?probe, fun z h1 h5 blind => ?zone,
    fun c => ⟨fun absent => ?absent, fun shut => ?shut, fun opened => ?opened⟩, ?defrost, ?pt, ?ct, ?ae, ?hu, fun x => ?kinds, fun i => ?line, ?attn,
    ?pexc, ?li, ?free, ?pending⟩
  case tb => rw [eq]; simp [State.resample, State.resetBlocks, returnTimeBase, TimeBase.retry]
  case gate => rw [eq]; simp [State.resample, State.resetBlocks]
  case probe =>
    rw [eq, State.probeAt_refreshLines]
    show (State.raise? _ _).probeAt p = _
    rw [State.probeAt_raise?, State.probeAt_resetBlocks _ _ hp]
    rfl
  case zone =>
    have stands : (s.mainReturn inp).zoneAt z = (s.zoneAt z).pinReset s.now := by
      rw [eq, State.zoneAt_refreshLines, State.zoneAt_resample, State.zoneAt_raise?, State.zoneAt_resetBlocks _ _ h1 h5]
      rfl
    rw [stands, Zone.pinReset_blind blind]
  case absent => rw [State.compAt_mainReturn, absent]; rfl
  case shut => rw [State.compAt_mainReturn, shut.1, shut.2]; rfl
  case opened =>
    rw [State.compAt_mainReturn, opened.1, opened.2, if_pos rfl]
    exact Compartment.openDoor_eq _ _
  case defrost => rw [eq]; rfl
  case pt => rw [eq]; simp [State.resample, State.resetBlocks]
  case ct => rw [eq]; simp [State.resample, State.resetBlocks]
  case ae => rw [eq]; simp [State.resample, State.resetBlocks]
  case hu => rw [eq]; simp [State.resample, State.resetBlocks]
  case kinds => rw [kinds, State.returnOverruns_iff]
  case line =>
    rw [eq, State.line_refreshLines, State.level_refreshLines]
    simp [State.resample, State.resetBlocks]
  case attn =>
    have raised : Kind.powerReturn ∈ (s.mainReturn inp).au.attention := (kinds _).2 (.inr (.inl rfl))
    simp [State.attnLow, State.running, run, List.ne_nil_of_mem raised]
  case pexc => simp [State.pexcOn, State.running, run]
  case li => rw [eq]; simp [State.resample, State.resetBlocks, Link.initial]
  case free => rw [eq]; simp [State.resample, State.resetBlocks]
  case pending => rw [eq]; simp [State.resample, State.resetBlocks]

/-! ### Pin reset -/

theorem exec_pinReset {s : State} {us : Nat} (run : s.tb.power = .run) (low : s.tb.resetLow = true) (long : 10 ≤ us)
    (csnLow : Bool) : exec (.pinReset us csnLow) s = .next (s.pinReset csnLow) := by
  simp [exec, execPinReset, State.running, run, low, long]

/-- A line set afresh is high in FOLLOW with its condition true, and low otherwise (R174, R176). -/
theorem State.alertHigh_refreshLines {s : State} (run : s.tb.power = .run) (i : Fin 2) :
    s.refreshLines.alertHigh i =
      (decide (s.au.lines[i].mode = .follow) && s.refreshLines.level s.au.lines[i].condition) := by
  have present : s.refreshLines.au.lines[i.val]? = some s.refreshLines.au.lines[i] := Vector.getElem?_eq_getElem i.isLt
  have running : s.refreshLines.running = true := by simp [State.running, run]
  simp only [State.alertHigh, running, present, State.line_refreshLines]
  cases s.au.lines[i].mode <;> simp

/-- Settles O19: a long pulse resets the blocks; after a short one the free value says whether it does or only the link
comes back. -/
theorem pinResetKeepsTheTripRecord : Obligations.PinResetKeepsTheTripRecord := by
  refine ⟨⟨fun s run => ?low, fun us csnLow s long run low =>
    ⟨s.pinReset csnLow, exec_pinReset run low long csnLow, rfl, rfl, fun p hp => ?probe, fun z h1 h5 => ?zone, rfl, rfl, rfl,
      rfl, rfl, rfl, rfl, rfl, rfl, fun i => ⟨?line, ?high⟩, rfl, rfl, rfl⟩⟩, fun us csnLow s short run low => ?short⟩
  case low => simp [exec, execResetnLow, State.running, run]
  case probe =>
    rw [State.pinReset, State.probeAt_refreshLines, State.probeAt_resetBlocks _ _ hp]
    rfl
  case zone =>
    have reset : (s.pinReset csnLow).zoneAt z = (s.zoneAt z).pinReset s.now := by
      rw [State.pinReset, State.zoneAt_refreshLines, State.zoneAt_resetBlocks _ _ h1 h5]
      rfl
    rw [reset]
    refine ⟨fun held => ?_, fun blind => ?_, fun stands => ?_⟩
    · simp only [Zone.pinReset, held.1, Zone.lose, if_neg (Nat.pos_iff_ne_zero.1 held.2)]
      rfl
    · simp only [Zone.pinReset, blind.1, Zone.lose, if_pos blind.2]
    · unfold Zone.pinReset
      split <;> simp_all
  case line => rw [State.pinReset, State.line_refreshLines, State.level_refreshLines]; rfl
  case high => exact State.alertHigh_refreshLines (s := State.resetBlocks csnLow _) run i
  case short =>
    have taken : exec (.pinReset us csnLow) s = .next (
        if Config.shortPulseTaken s.freeCount then State.pinReset csnLow { s with freeCount := s.freeCount + 1 }
        else State.resetnRise csnLow { s with freeCount := s.freeCount + 1 }) := by
      simp [exec, execPinReset, State.running, run, low, Nat.not_le.2 short]
    refine ⟨_, taken, ?_⟩
    cases Config.shortPulseTaken s.freeCount with
    | true =>
      refine ⟨rfl, rfl, rfl, rfl, .inl ?_⟩
      rw [exec_pinReset run low (le_refl 10)]
      rfl
    | false => exact ⟨rfl, rfl, rfl, rfl, .inr rfl⟩

end Sys2Proof.Machine

/-! Events of the time base, the probe gate and the tick pass (O20 to O25). -/

namespace Sys2Proof.Machine

/-! ### An event taken -/

theorem happens_of {i : Instr} {s : State} {holds : Bool} {f : State → State}
    (hx : exec i s = .next (s.event holds f)) (taken : holds = true) (lines : (f s).au.lines = s.au.lines)
    (li : (f s).li = s.li) (free : (f s).freeCount = s.freeCount) (pending : (f s).pending = s.pending) :
    Happens i s (f s).evaluateLines :=
  ⟨by rw [hx, State.event_of taken], State.linesStepped_evaluateLines lines, li, free, pending⟩

theorem State.running_of {s : State} (h : s.tb.power = .run) : s.running = true := by simp [State.running, h]

theorem State.powered_of {s : State} (h : s.tb.power ≠ .off) : s.powered = true := by simp [State.powered, h]

theorem State.raised_raise? (k : Option Kind) (s : State) : Raised k s (s.raise? k) := fun x => State.mem_raise? x k s

theorem State.raised_raise (k : Kind) (s : State) : Raised (some k) s (s.raise k) := State.raised_raise? (some k) s

theorem raised_none {s t : State} (h : t.au.attention = s.au.attention) : Raised none s t := fun x => by simp [h]

/-! ### Time base -/

theorem TimeBase.second_trip (rc : Nat) (tb : TimeBase) :
    (tb.second rc).trip = if tb.trip < 4294967295 then tb.trip + 1 else 4294967295 := by
  simp only [TimeBase.second, satAdd32, satAdd, maxU32]
  split <;> omega

/-- Settles O20: the expiries of the ending second are taken, then the time base advances. -/
theorem secondEventAdvancesTheClock : Obligations.SecondEventAdvancesTheClock := by
  intro rc s supplied
  obtain ⟨tb, ps, zm, pt, ct, ae, hu, attention, lines, li, free, pending⟩ := s.beginSecond_spec rc
  refine ⟨(s.beginSecond rc).evaluateLines, happens_of rfl (State.powered_of supplied) lines li free pending, ?expired,
    fun idle => ?idle, TimeBase.second_trip rc s.tb, ⟨fun full => ?fresh, fun stale => ?kept⟩, rfl, fun lost => ?lost,
    fun normal => ?normal, ?scan, ?tick, rfl, ps, pt, ae, hu⟩
  case expired =>
    obtain ⟨u, taken, zm', ct', attention'⟩ := s.expiriesTaken_takeExpiries
    exact ⟨u, taken, zm.trans zm', ct.trans ct', attention.trans attention'⟩
  case idle =>
    rw [State.takeExpiries_idle idle] at zm ct attention
    exact ⟨zm, ct, attention⟩
  case fresh => simp [State.beginSecond, TimeBase.second, refreshedTrim, full]
  case kept =>
    show refreshedTrim s.tb rc = _
    rw [refreshedTrim, if_neg]
    simp only [Bool.and_eq_true, decide_eq_true_eq, not_and_or, Bool.not_eq_true, Nat.not_le]
    exact stale
  case lost => simp [State.beginSecond, TimeBase.second, lost]
  case normal => simp [State.beginSecond, TimeBase.second, normal]
  case scan =>
    simp [State.beginSecond, TimeBase.second, Nat.dvd_iff_mod_eq_zero, and_assoc]
  case tick =>
    simp [State.beginSecond, TimeBase.second, Nat.dvd_iff_mod_eq_zero, Option.any_eq_true]

/-- Settles O21: the stop and the end of a retry window change the time base and raise at most TIMEBASE_LOST. -/
theorem crystalStopAndRetry : Obligations.CrystalStopAndRetry := by
  refine ⟨fun s supplied normal => ?stop, fun found s supplied opened lost => ?retry⟩
  case stop =>
    exact ⟨s.stopCrystal.evaluateLines, happens_of rfl (by simp [State.powered_of supplied, normal]) rfl rfl rfl rfl, rfl,
      State.raised_raise .timebaseLost _, rfl, rfl, rfl, rfl, rfl, rfl⟩
  case retry =>
    have taken : (s.powered && s.tb.retryOpen) = true := by simp [State.powered_of supplied, opened]
    cases found with
    | true =>
      exact ⟨(s.endRetry true).evaluateLines, happens_of rfl taken rfl rfl rfl rfl, rfl, raised_none rfl, rfl, rfl, rfl,
        rfl, rfl, rfl⟩
    | false =>
      exact ⟨(s.endRetry false).evaluateLines, happens_of rfl taken rfl rfl rfl rfl,
        by simp [State.endRetry, lost], State.raised_raise .timebaseLost _, rfl, rfl, rfl, rfl, rfl, rfl⟩

/-! ### Scan and edges -/

/-- A change that leaves the probe it is made to as it was changes nothing. -/
theorem State.modifyProbe_eq_self {s : State} {p : Nat} {f : Probe → Probe} (hp : p < 8)
    (h : f (s.probeAt p) = s.probeAt p) : s.modifyProbe p f = s := by
  have probes : (s.ps.probes.mapIdx fun i x => if i = p then f x else x) = s.ps.probes := by
    ext1 i hi
    simp only [Vector.getElem_mapIdx]
    split
    next here =>
      subst here
      simpa [State.probeAt, hp] using h
    next => rfl
  simp only [State.modifyProbe, probes]

/-- Settles O22: an open gate counts, a closed one does not, and a probe that does not count stands. -/
theorem scanAndEdgesCount : Obligations.ScanAndEdgesCount := by
  refine ⟨fun s run due => ?scan, fun p s closed => ?closed, fun p s run gate hp silent => ?silent,
    fun p n s run gate hp counts le => ?counts⟩
  case scan =>
    exact ⟨_, happens_of rfl (by simp [State.running_of run, due]) rfl rfl rfl rfl, rfl, rfl,
      fun p hp => State.probeAt_of_probes (f := Probe.openGate) rfl hp, rfl, rfl, rfl, rfl, rfl, rfl⟩
  case closed =>
    refine exec_event_not rfl ?_
    rcases closed with h | h <;> simp [State.running, h]
  case silent =>
    have same : s.modifyProbe p Probe.edge = s :=
      State.modifyProbe_eq_self hp (by simp only [Probe.edge, silent, Option.map_none]; rw [← silent])
    refine ⟨_, happens_of rfl (by simp [State.running_of run, gate]) rfl rfl rfl rfl, ?_, rfl⟩
    rw [same]
    exact unmoved_evaluateLines s
  case counts =>
    refine ⟨_, happens_of rfl (by simp [State.running_of run, gate]) rfl rfl rfl rfl, gate, ?_, fun q hq other => ?_, rfl,
      rfl, rfl, rfl, rfl, rfl, rfl⟩
    · rw [State.probeAt_evaluateLines, State.probeAt_modifyProbe, if_pos ⟨rfl, hp⟩, Probe.edge, counts]
      have saturated : satAdd maxU16 n 1 = if n = 65535 then 65535 else n + 1 := by
        simp only [satAdd, maxU16]
        split <;> omega
      rw [Option.map_some, saturated]
    · rw [State.probeAt_evaluateLines, State.probeAt_modifyProbe, if_neg fun here => other here.1]

end Sys2Proof.Machine

/-! The gate-close in the scanner and in the zone monitor (O23, O24). -/

namespace Sys2Proof.Machine

/-! ### One reading -/

theorem clampTemp_eq (t : Int) : clampTemp t = if t < -400 then -400 else if 700 < t then 700 else t := rfl

theorem clampTemp_ne_iff (t : Int) : clampTemp t ≠ t ↔ t < -400 ∨ 700 < t := by
  rw [clampTemp_eq]
  split_ifs <;> omega

theorem rejectedReading_iff (n : Nat) (t : Int) :
    rejectedReading n t = true ↔ n < 16 ∨ n = 65535 ∨ t < -550 ∨ 850 < t := by
  simp [rejectedReading, or_assoc]

/-- Appending keeps the four newest readings (R28). -/
theorem appendReading_eq {w : List Int} (hw : w.length ≤ 4) (x : Int) :
    appendReading w x = (w ++ [x]).drop (w.length + 1 - 4) := by
  unfold appendReading
  split
  next full =>
    rw [show w.length + 1 - 4 = 1 by omega, List.drop_append_of_le_length (by omega)]
  next => rw [show w.length + 1 - 4 = 0 by omega, List.drop_zero]

/-- What a rejected reading makes of a probe that is not OFF (R31 to R33). -/
theorem Probe.reject_spec {p : Probe} (hon : p.state ≠ .off) :
    p.reject = { p with state := p.reject.state, rejects := p.reject.rejects, window := p.reject.window } ∧
      (p.state ≠ .faulted ∧ p.rejects < 2 →
        p.reject.state = p.state ∧ p.reject.rejects = p.rejects + 1 ∧ p.reject.window = p.window) ∧
      (p.state ≠ .faulted ∧ 2 ≤ p.rejects →
        p.reject.state = .faulted ∧ p.reject.rejects = 3 ∧ p.reject.window = []) ∧
      (p.state = .faulted →
        p.reject.state = .faulted ∧ p.reject.rejects = min (p.rejects + 1) 3 ∧ p.reject.window = []) := by
  by_cases third : 2 ≤ p.rejects
  · have at3 : 3 ≤ p.rejects + 1 := by omega
    cases hs : p.state with
    | off => exact absurd hs hon
    | filling => simp [Probe.reject, hs, at3, third, Nat.not_lt.2 third]
    | active => simp [Probe.reject, hs, at3, third, Nat.not_lt.2 third]
    | faulted => simp [Probe.reject, hs]
  · have below : ¬3 ≤ p.rejects + 1 := by omega
    cases hs : p.state with
    | off => exact absurd hs hon
    | filling => simp [Probe.reject, hs, below, third]
    | active => simp [Probe.reject, hs, below, third]
    | faulted => simp [Probe.reject, hs]

/-- What an accepted reading makes of a probe that is not OFF (R28, R31 to R33). -/
theorem Probe.accept_spec {p : Probe} (hon : p.state ≠ .off) (x : Int) :
    p.accept x = { p with state := (p.accept x).state, rejects := 0, window := appendReading p.window x } ∧
      (p.state = .filling → (p.accept x).state = if (appendReading p.window x).length = 2 then .active else .filling) ∧
      (p.state = .active → (p.accept x).state = .active) ∧
      (p.state = .faulted → (p.accept x).state = if (appendReading p.window x).length = 4 then .active else .faulted) := by
  cases hs : p.state with
  | off => exact absurd hs hon
  | filling => simp [Probe.accept, hs]
  | active => simp [Probe.accept, hs]
  | faulted => simp [Probe.accept, hs]

/-- One reading of a counting probe that is not OFF: converted, tested, and applied as accepted or rejected. -/
theorem Probe.closeGate_outcome {q : Probe} {n : Nat} (counts : q.edges = some n) (hon : q.state ≠ .off)
    (hw : q.window.length ≤ 4) : ReadingOutcome n q q.closeGate := by
  dsimp only [ReadingOutcome]
  rw [← rejectedReading_iff, ← appendReading_eq hw, ← clampTemp_eq]
  have closed : q.closeGate = { q.read n with edges := none } := by simp only [Probe.closeGate, counts]
  cases rejected : rejectedReading n (convertCount n q.zeroCount q.gain) with
  | true =>
    obtain ⟨frame, counting, third, faulted⟩ := Probe.reject_spec
      (p := { q with lastCount := n, lastTemp := convertCount n q.zeroCount q.gain }) hon
    have read : q.read n = Probe.reject { q with lastCount := n, lastTemp := convertCount n q.zeroCount q.gain } := by
      simp only [Probe.read, if_neg hon, rejected, if_true]
    rw [closed, read, frame]
    exact ⟨rfl, rfl, rfl, rfl, rfl, rfl, fun _ => ⟨rfl, counting, third, faulted⟩, fun accepted => absurd rfl accepted⟩
  | false =>
    let taken := { q with
      lastCount := n
      lastTemp := convertCount n q.zeroCount q.gain
      clamped := decide (clampTemp (convertCount n q.zeroCount q.gain) ≠ convertCount n q.zeroCount q.gain) }
    obtain ⟨frame, filling, active, faulted⟩ := Probe.accept_spec (p := taken) hon
      (clampTemp (convertCount n q.zeroCount q.gain))
    have read : q.read n = taken.accept (clampTemp (convertCount n q.zeroCount q.gain)) := by
      simp only [Probe.read, if_neg hon, rejected, Bool.false_eq_true, if_false, taken]
    rw [closed, read, frame]
    refine ⟨rfl, rfl, rfl, rfl, rfl, rfl, fun refused => absurd refused (by decide), fun _ => ⟨?_, rfl, rfl, filling, active, faulted⟩⟩
    simp only [taken, clampTemp_ne_iff]

/-! ### The scanner -/

theorem State.closeGate_attention (s : State) (x : Kind) :
    x ∈ s.closeGate.au.attention ↔
      x ∈ s.au.attention ∨ (x = .probeFault ∧ ∃ p, p < 8 ∧ (s.probeAt p).state = .active ∧
        (s.closeGate.probeAt p).state = .faulted) := by
  have failed : (s.ps.probes.toList.any fun p => probeFailed p p.closeGate) = true ↔
      ∃ p, p < 8 ∧ (s.probeAt p).state = .active ∧ (s.closeGate.probeAt p).state = .faulted := by
    rw [List.any_eq_true]
    constructor
    · rintro ⟨q, hq, fails⟩
      obtain ⟨p, hp, rfl⟩ := State.mem_probes.1 hq
      refine ⟨p, hp, ?_⟩
      rw [s.probeAt_closeGate hp]
      simpa [probeFailed] using fails
    · rintro ⟨p, hp, active, faulted⟩
      rw [s.probeAt_closeGate hp] at faulted
      exact ⟨_, State.mem_probes.2 ⟨p, hp, rfl⟩, by simp [probeFailed, active, faulted]⟩
  rw [← failed]
  unfold State.closeGate
  dsimp only
  split
  next fails => rw [State.mem_raise, fails]; simp [or_comm]
  next holds => simp [holds]

theorem happens_gateClose {s : State} (run : s.tb.power = .run) (gate : s.ps.gateOpen = true) :
    Happens .gateClose s s.closeGate.formZones.evaluateLines := by
  obtain ⟨-, -, -, -, -, -, lines, li, free, pending, -⟩ := s.closeGate_stands
  exact happens_of (f := fun s => s.closeGate.formZones) rfl (by simp [State.running_of run, gate]) lines li free pending

/-- Settles O23: each counting probe makes its reading, and PROBE_FAULT follows the probes that failed by it. -/
theorem gateCloseReadsTheProbes : Obligations.GateCloseReadsTheProbes := by
  intro s run gate windows
  obtain ⟨tb, zm, pt, ct, ae, hu, -, -, -, -, closed⟩ := s.closeGate_stands
  refine ⟨_, happens_gateClose run gate, closed, fun p hp => ?_, s.closeGate_attention, tb, by rw [← zm]; rfl,
    by rw [← zm]; rfl, by rw [← zm]; rfl, by rw [← zm]; rfl, pt, ct, ae, hu⟩
  have here : s.closeGate.formZones.evaluateLines.probeAt p = (s.probeAt p).closeGate := s.probeAt_closeGate hp
  rw [here]
  exact ⟨fun silent => by simp only [Probe.closeGate, silent],
    fun n counts hon => Probe.closeGate_outcome counts hon (windows p hp)⟩

/-! ### The zone monitor -/

theorem State.mem_handOverSet {s : State} {z : Nat} {x : Int} :
    x ∈ handOverSet s.ps.probes.toList z ↔
      ∃ p, p < 8 ∧ (s.probeAt p).state = .active ∧ (s.probeAt p).zone = z ∧ probeValue? (s.probeAt p).window = some x := by
  simp only [handOverSet, List.mem_filterMap, List.mem_filter, Bool.and_eq_true, beq_iff_eq]
  constructor
  · rintro ⟨q, ⟨hq, active, zone⟩, value⟩
    obtain ⟨p, hp, rfl⟩ := State.mem_probes.1 hq
    exact ⟨p, hp, active, zone, value⟩
  · rintro ⟨p, hp, active, zone, value⟩
    exact ⟨_, ⟨State.mem_probes.2 ⟨p, hp, rfl⟩, active, zone⟩, value⟩

/-- A zone without a hand-over set: it is held or blinded where it was SENSED, and otherwise goes on as it stood (R42). -/
theorem Zone.gateClose_empty (now : Nat) (z : Zone) : ZoneMoves now [] z (z.gateClose now []) := by
  have steps := fun air estimate => stepToward_spec z.lag air estimate
  cases hs : z.sensing with
  | sensed =>
    by_cases hold : z.hold = 0
    · simp [ZoneMoves, Zone.gateClose, hs, hold, Zone.lose]
    · simpa [ZoneMoves, Zone.gateClose, hs, hold, Zone.lose, Zone.stepEstimates, EstimateStep] using
        ⟨steps z.airMax z.warm, steps z.airMin z.cold⟩
  | held d =>
    simpa [ZoneMoves, Zone.gateClose, hs, Zone.stepEstimates, EstimateStep] using
      ⟨steps z.airMax z.warm, steps z.airMin z.cold⟩
  | blind => simp [ZoneMoves, Zone.gateClose, hs]

/-- A zone with a hand-over set: SENSED on the set's extremes, its estimates set to them or stepped (R41, R45). -/
theorem Zone.gateClose_sensed (now : Nat) (x : Int) (xs : List Int) (z : Zone) :
    ZoneMoves now (x :: xs) z (z.gateClose now (x :: xs)) := by
  obtain ⟨hiMem, hi⟩ := largest_spec x xs
  obtain ⟨loMem, lo⟩ := smallest_spec x xs
  have bounds : ∀ y ∈ x :: xs, smallest x xs ≤ y ∧ y ≤ largest x xs := fun y hy => ⟨lo y hy, hi y hy⟩
  have warm := stepToward_spec z.lag (largest x xs) z.warm
  have cold := stepToward_spec z.lag (smallest x xs) z.cold
  cases hs : z.sensing with
  | blind => simpa [ZoneMoves, Zone.gateClose, hs] using And.intro hiMem (And.intro loMem bounds)
  | sensed =>
    simpa [ZoneMoves, Zone.gateClose, hs, Zone.stepEstimates, EstimateStep] using
      And.intro (And.intro hiMem (And.intro loMem bounds)) (And.intro warm cold)
  | held d =>
    simpa [ZoneMoves, Zone.gateClose, hs, Zone.stepEstimates, EstimateStep] using
      And.intro (And.intro hiMem (And.intro loMem bounds)) (And.intro warm cold)

theorem Zone.gateClose_moves (now : Nat) (set : List Int) (z : Zone) : ZoneMoves now set z (z.gateClose now set) := by
  cases set with
  | nil => exact z.gateClose_empty now
  | cons x xs => exact z.gateClose_sensed now x xs

/-- Settles O24: a zone that can be named takes the hand-over set of the probes as the scanner leaves them. -/
theorem gateCloseMovesTheZones : Obligations.GateCloseMovesTheZones := by
  intro s run gate
  obtain ⟨tb, zm, -⟩ := s.closeGate_stands
  have present : ∀ z, s.closeGate.zonePresent z = s.zonePresent z := fun z => by
    simp only [State.zonePresent, State.compPresent_congr tb]
  refine ⟨_, happens_gateClose run gate, fun z h1 h5 => ?_⟩
  rw [State.zoneAt_evaluateLines, State.zoneAt_formZones _ h1 h5, present, State.zoneAt_congr (congrArg _ zm),
    State.now, tb]
  refine ⟨fun named => ⟨handOverSet s.closeGate.ps.probes.toList z, fun x => State.mem_handOverSet, ?_⟩, fun unnamed => ?_⟩
  · rw [if_pos named]
    exact Zone.gateClose_moves _ _ _
  · rw [unnamed]
    rfl

end Sys2Proof.Machine

/-! The tick pass, the timers, doors, defrost and the deadline lapse (O25 to O29). -/

namespace Sys2Proof.Machine

/-! ### The tick pass -/

theorem Pass.advance_eq (second : Nat) {slot : Nat} (h : slot < 48) :
    Pass.advance ⟨second, slot⟩ = if slot = 47 then none else some ⟨second, slot + 1⟩ := by
  unfold Pass.advance
  by_cases last : slot = 47
  · rw [if_pos last, if_neg (by dsimp only; omega)]
  · rw [if_neg last, if_pos (by dsimp only; omega)]

theorem exec_tickPassVisit {s : State} {p : Pass} (flight : s.ae = some p) :
    exec .tickPassVisit s = .next (s.event s.powered (State.visit p)) := by
  simp only [exec, execTickPassVisit, flight]

/-- A record that is charged against no zone is left alone by a settle (R103). -/
theorem Record.settle_of_idle {g : Readings} {t : Nat} {r : Record} (idle : r.isHandover = true ∨ r.isClosed = true) :
    r.settle g t = (r, none) := by
  refine Record.settle_of_uncharged ?_
  rcases idle with frozen | closed
  · obtain ⟨f, d, hc⟩ := r.isHandover_iff.1 frozen
    simp [Record.lastCharge?, hc]
  · obtain ⟨k, hc⟩ := r.isClosed_iff.1 closed
    simp [Record.lastCharge?, hc]

/-- Settles O25: the tick starts the pass; a visit is the settle of its slot at the tick second. -/
theorem tickPassVisitsEverySlot : Obligations.TickPassVisitsEverySlot := by
  refine ⟨fun s supplied due => ?tick, fun s second slot supplied flight hslot => ?visit⟩
  case tick =>
    exact ⟨_, happens_of rfl (by simp [State.powered_of supplied, due]) rfl rfl rfl rfl, rfl, rfl, rfl, rfl, rfl, rfl, rfl,
      rfl⟩
  case visit =>
    obtain ⟨tb, ps, zm, pt, index, members, stage, -, hu, lines, li, free, pending⟩ := s.settle_stands slot second
    have record : ∀ k, (State.visit ⟨second, slot⟩ s).evaluateLines.record? k = (s.settle slot second).record? k :=
      fun _ => rfl
    refine ⟨(State.visit ⟨second, slot⟩ s).evaluateLines,
      happens_of (exec_tickPassVisit flight) (State.powered_of supplied) lines li free pending,
      Pass.advance_eq second hslot, fun k hk => ?others, fun empty => ?empty, fun r hr => ?settled, index, members, stage,
      tb, ps, zm, pt, hu⟩
    case others => rw [record, State.record?_settle, if_neg hk]
    case empty =>
      refine ⟨by rw [record, State.record?_settle, if_pos rfl, empty]; rfl, ?_⟩
      show (s.settle slot second).au.attention = _
      simp only [State.settle, empty]
    case settled =>
      have here : (State.visit ⟨second, slot⟩ s).evaluateLines.record? slot =
          some (r.settle (s.readings r) second).1 := by
        rw [record, State.record?_settle, if_pos rfl, hr]; rfl
      have raised : Raised (r.settle (s.readings r) second).2 s (State.visit ⟨second, slot⟩ s).evaluateLines :=
        State.mem_settle hr
      refine ⟨fun _ => ⟨here, raised⟩, fun idle => ⟨?_, ?_⟩⟩
      · rw [here, Record.settle_of_idle idle]
      · show (s.settle slot second).au.attention = _
        simp only [State.settle, hr, Record.settle_of_idle idle]
        rfl

/-! ### Expiries and pulses -/

theorem State.awaitsEnd_line (s : State) (l : Fin 2) (n : Nat) :
    (s.au.lines[l.val]?).any (Line.awaitsEnd n) = decide (s.au.lines[l].pulseEnd = some n) := by
  rw [show s.au.lines[l.val]? = some s.au.lines[l] from Vector.getElem?_eq_getElem l.isLt, Option.any_some,
    Line.awaitsEnd, beq_eq_decide]

theorem exec_pulseEnd_taken {s : State} {l : Fin 2} {n : Nat} (run : s.tb.power = .run)
    (awaits : s.au.lines[l].pulseEnd = some n) :
    exec (.pulseEnd ⟨l, n⟩) s = .next (s.modifyLine l fun x => { x with pulseEnd := none }).evaluateLines := by
  exact congrArg Host.Outcome.next (State.event_of (by rw [State.running_of run, State.awaitsEnd_line, awaits]; simp))

theorem exec_pulseEnd_overtaken {s : State} {l : Fin 2} {n : Nat} (other : s.au.lines[l].pulseEnd ≠ some n) :
    exec (.pulseEnd ⟨l, n⟩) s = .next s := by
  exact exec_event_not rfl (by rw [State.awaitsEnd_line, decide_eq_false other, Bool.and_false])

/-- With the lines up to date, the end of a pulse is all that happens to its line. -/
theorem State.line_pulseEnded {s : State} (current : s.linesCurrent) (l m : Fin 2) :
    (s.modifyLine l fun x => { x with pulseEnd := none }).evaluateLines.au.lines[m] =
      if m.val = l.val then { s.au.lines[m] with pulseEnd := none } else s.au.lines[m] := by
  rw [State.evaluateLines_of_linesCurrent (State.linesCurrent_modifyLine (by intro x; rfl) (by intro x; rfl) current),
    State.line_modifyLine]

/-- A PULSE line is high in RUN exactly while its pulse runs (R173). -/
theorem State.alertHigh_of_pulseMode {s : State} {i : Fin 2} (pulsing : s.au.lines[i].mode = .pulse) :
    s.alertHigh i = (s.running && s.au.lines[i].pulseEnd.isSome) := by
  have present : s.au.lines[i.val]? = some s.au.lines[i] := Vector.getElem?_eq_getElem i.isLt
  simp only [State.alertHigh, present, pulsing]

/-- A false-to-true change on a PULSE line starts a pulse that awaits the end of this start (R173). -/
theorem LinesStepped.pulse {s t : State} (stepped : LinesStepped s t) {l : Fin 2} (run : t.tb.power = .run)
    (mode : s.au.lines[l].mode = .pulse) (reference : s.au.lines[l].reference = false)
    (level : t.level s.au.lines[l].condition = true) :
    t.alertHigh l = true ∧ t.au.lines[l].pulseEnd = some s.au.lines[l].pulses := by
  obtain ⟨-, mode', -, -, pulse⟩ := stepped l
  rw [if_pos ⟨run, mode, reference, level⟩] at pulse
  refine ⟨?_, pulse.1⟩
  rw [State.alertHigh_of_pulseMode (mode'.trans mode), State.running_of run, pulse.1]
  rfl

/-- Settles O26: each expiry at its second, and a pulse's end by the number of its start. -/
theorem timersExpire : Obligations.TimersExpire := by
  refine ⟨fun z s supplied h1 h5 held => ?hold, fun c s supplied present opened deadline => ?dwell,
    fun c start raise s supplied present granted => ?allowance,
    fun l n s run current => ⟨exec_pulseEnd_overtaken, fun awaits => ?pulse⟩,
    fun l n i s t s' t' run current numbered mode awaits reference taken stepped run' level ended taken' stepped' run''
      level' => ?restart⟩
  case hold =>
    refine ⟨_, happens_of rfl (by simp [State.holdDue, State.powered_of supplied, held, State.now]) rfl rfl rfl rfl, ?_,
      fun y hy => ?_, rfl, rfl, rfl, rfl, rfl, rfl, rfl, rfl, rfl⟩
    · rw [State.zoneAt_evaluateLines, State.expireHold, State.zoneAt_modifyZone, if_pos ⟨rfl, h1, h5⟩]
    · rw [State.zoneAt_evaluateLines, State.expireHold, State.zoneAt_modifyZone, if_neg fun here => hy here.1]
  case dwell =>
    obtain ⟨h1, -, h4⟩ := State.compPresent_iff.1 present
    refine ⟨_, happens_of rfl (by simp [State.dwellDue, State.powered_of supplied, present, opened, deadline, State.now])
      rfl rfl rfl rfl, ?_, fun d hd => ?_, State.raised_raise .doorDwell _, rfl, rfl, rfl, rfl, rfl, rfl, rfl, rfl⟩
    · rw [State.compAt_evaluateLines, State.expireDwell, State.compAt_raise, State.compAt_modifyComp, if_pos ⟨rfl, h1, h4⟩]
    · rw [State.compAt_evaluateLines, State.expireDwell, State.compAt_raise, State.compAt_modifyComp,
        if_neg fun here => hd here.1]
  case allowance =>
    obtain ⟨h1, -, h4⟩ := State.compPresent_iff.1 present
    refine ⟨_, happens_of rfl (by
      simp [State.allowanceDue, Compartment.allowanceEnds, State.powered_of supplied, present, granted, State.now])
      rfl rfl rfl rfl, ?_, fun d hd => ?_, State.raised_raise .defrostOverrun _, rfl, rfl, rfl, rfl, rfl, rfl, rfl, rfl⟩
    · rw [State.compAt_evaluateLines, State.expireAllowance, State.compAt_raise, State.compAt_modifyComp,
        if_pos ⟨rfl, h1, h4⟩, granted]
      rfl
    · rw [State.compAt_evaluateLines, State.expireAllowance, State.compAt_raise, State.compAt_modifyComp,
        if_neg fun here => hd here.1]
  case pulse =>
    refine ⟨_, exec_pulseEnd_taken run awaits, ?_, fun pulsing => ?_, fun m hm => ?_, ⟨rfl, rfl, rfl, rfl, rfl, rfl, rfl⟩,
      rfl, rfl, rfl, rfl⟩
    · rw [State.line_pulseEnded current, if_pos rfl]
    · rw [State.alertHigh_of_pulseMode (by rw [State.line_pulseEnded current, if_pos rfl]; exact pulsing),
        State.line_pulseEnded current, if_pos rfl]
      exact Bool.and_false _
    · rw [State.line_pulseEnded current, if_neg (by omega)]
  case restart =>
    have started := stepped.pulse run' mode reference level
    rw [exec_pulseEnd_taken run awaits] at ended
    cases ended
    have line := State.line_pulseEnded current l l
    rw [if_pos rfl] at line
    have restarted := stepped'.pulse (l := l) run'' (by rw [line]; exact mode) (by rw [line]; exact reference)
      (by rw [line]; exact level')
    rw [line] at restarted
    refine ⟨exec_pulseEnd_overtaken ?_, fun u hu => ?_⟩
    · rw [started.2, Ne, Option.some.injEq]
      have := numbered l n awaits
      omega
    · simp only [List.mem_cons, List.not_mem_nil, or_false] at hu
      rcases hu with rfl | rfl
      · exact started
      · exact restarted

end Sys2Proof.Machine

/-! Doors, defrost and the deadline lapse (O27 to O29). -/

namespace Sys2Proof.Machine

/-! ### Doors -/

theorem State.compAt_modifyComp_same {s : State} {c : Nat} (present : s.compPresent c = true)
    (f : Compartment → Compartment) : (s.modifyComp c f).compAt c = f (s.compAt c) := by
  obtain ⟨low, -, high⟩ := State.compPresent_iff.1 present
  rw [State.compAt_modifyComp, if_pos ⟨rfl, low, high⟩]

theorem State.compAt_modifyComp_other {s : State} {c d : Nat} (other : d ≠ c) (f : Compartment → Compartment) :
    (s.modifyComp c f).compAt d = s.compAt d := by
  rw [State.compAt_modifyComp, if_neg fun here => other here.1]

/-- The door-open event: the overrun raised where one is lost, then the opening begun (R47). -/
theorem State.openDoor_eq (c : Nat) (s : State) :
    s.openDoor c =
      (s.raise? (if openOverruns (s.compAt c) then some .doorOverrun else none)).modifyComp c
        fun k => { k with debouncing := false }.openDoor s.now := by
  rw [← State.raise_ite]
  rfl

theorem State.doorStable_of {s : State} {c : Nat} {level : Bool} (run : s.tb.power = .run)
    (present : s.compPresent c = true) (stable : (s.compAt c).debouncing = true)
    (seen : (s.compAt c).doorLevel = level) (unlike : (s.compAt c).doorOpen = !level) :
    s.doorStable c level = true := by
  cases level <;> simp [State.doorStable, State.running_of run, present, stable, seen, unlike]

/-- Settles O27: each event of a door is one change to its compartment, its debounce ended by the last two. -/
theorem doorsOpenAndClose : Obligations.DoorsOpenAndClose := by
  refine fun c s run present => ⟨fun level unlike => ?change, fun ⟨stable, seen, closed⟩ => ?opens,
    fun ⟨stable, seen, opened⟩ => ?closes⟩
  case change =>
    refine ⟨_, happens_of rfl (by cases level <;> simp [State.running_of run, present, unlike]) rfl rfl rfl rfl, ?_,
      fun d other => ?_, rfl, rfl, rfl, rfl, rfl, rfl, rfl, rfl, rfl⟩
    · rw [State.compAt_evaluateLines, State.compAt_modifyComp_same present]
    · rw [State.compAt_evaluateLines, State.compAt_modifyComp_other other]
  case opens =>
    refine ⟨(s.openDoor c).evaluateLines, happens_of rfl (State.doorStable_of run present stable seen closed) ?_ ?_ ?_ ?_,
      ?compartment, fun d other => ?_, ?raised, ?_, ?_, ?_, ?_, ?_, ?_, ?_, ?_⟩
    case compartment =>
      rw [State.compAt_evaluateLines, State.openDoor_eq, State.compAt_modifyComp_same (by simpa using present),
        State.compAt_raise?]
      exact Compartment.openDoor_eq _ _
    case raised =>
      rw [State.openDoor_eq]
      exact State.raised_raise? _ s
    · rw [State.openDoor_eq]; simp
    · rw [State.openDoor_eq]; simp
    · rw [State.openDoor_eq]; simp
    · rw [State.openDoor_eq]; simp
    · rw [State.compAt_evaluateLines, State.openDoor_eq, State.compAt_modifyComp_other other, State.compAt_raise?]
    all_goals rw [State.openDoor_eq]; simp [State.modifyComp]
  case closes =>
    refine ⟨_, happens_of rfl (State.doorStable_of run present stable seen opened) rfl rfl rfl rfl, ?_,
      fun d other => ?_, rfl, rfl, rfl, rfl, rfl, rfl, rfl, rfl, rfl⟩
    · rw [State.compAt_evaluateLines, State.compAt_modifyComp_same present]
      exact Compartment.closeDoor_eq _ _
    · rw [State.compAt_evaluateLines, State.compAt_modifyComp_other other]

/-! ### Defrost -/

theorem Compartment.grants_iff {now : Nat} {c : Compartment} :
    c.grants now = true ↔ ∀ e, c.previousEnd = some e → c.spacing ≤ now - e := by
  unfold Compartment.grants
  cases c.previousEnd <;> simp

theorem Compartment.grants_eq_false {now : Nat} {c : Compartment} :
    c.grants now = false ↔ ∃ e, c.previousEnd = some e ∧ now - e < c.spacing := by
  unfold Compartment.grants
  cases c.previousEnd <;> simp

theorem State.refusesAllowance_iff {s : State} :
    s.refusesAllowance = true ↔
      ∃ c, 1 ≤ c ∧ c ≤ 4 ∧ s.compPresent c = true ∧ (s.compAt c).inMask = true ∧
        ∃ e, (s.compAt c).previousEnd = some e ∧ s.tb.trip - e < (s.compAt c).spacing := by
  have numbers : ∀ c, c ∈ [1, 2, 3, 4] ↔ 1 ≤ c ∧ c ≤ 4 := by
    intro c; simp only [List.mem_cons, List.not_mem_nil, or_false]; omega
  simp only [State.refusesAllowance, List.any_eq_true, numbers, Bool.and_eq_true, Bool.not_eq_true',
    Compartment.grants_eq_false, State.now, and_assoc]

/-- The DEFROST-rise event: an episode in each compartment of the mask, and one raise for all refusals (R54). -/
theorem State.defrostRise_eq (s : State) :
    s.defrostRise =
      ((s.setDefrost true).mapPresentComps fun _ k => if k.inMask then k.startEpisode s.now else k).raise?
        (if s.refusesAllowance then some .defrostOverrun else none) :=
  State.raise_ite _ _ _

theorem State.compAt_defrostRise (s : State) (c : Nat) :
    s.defrostRise.compAt c =
      if s.compPresent c ∧ (s.compAt c).inMask then (s.compAt c).startEpisode s.tb.trip else s.compAt c := by
  have set : (s.setDefrost true).compAt c = s.compAt c := State.compAt_congr rfl c
  have present : (s.setDefrost true).compPresent c = s.compPresent c := rfl
  rw [State.defrostRise_eq, State.compAt_raise?, State.compAt_mapPresentComps, set, present]
  cases s.compPresent c <;> simp [State.now]

theorem State.defrostStable_of {s : State} {level : Bool} (run : s.tb.power = .run)
    (stable : s.zm.defrostDebouncing = true) (seen : s.zm.defrostLevel = level)
    (unlike : s.zm.defrostActive = !level) : s.defrostStable level = true := by
  cases level <;> simp [State.defrostStable, State.running_of run, stable, seen, unlike]

/-- Settles O28: the rise and the fall are one change to every present compartment each. -/
theorem defrostRisesAndFalls : Obligations.DefrostRisesAndFalls := by
  refine fun s run => ⟨fun level unlike => ?change, fun ⟨stable, seen, inactive⟩ => ?rise,
    fun ⟨stable, seen, active⟩ => ?fall⟩
  case change =>
    exact ⟨_, happens_of rfl (by cases level <;> simp [State.running_of run, unlike]) rfl rfl rfl rfl, rfl, rfl, rfl, rfl,
      rfl, rfl, rfl, rfl⟩
  case rise =>
    have comps : ∀ c, s.defrostRise.evaluateLines.compAt c = s.defrostRise.compAt c := fun _ => rfl
    refine ⟨s.defrostRise.evaluateLines, happens_of rfl (State.defrostStable_of run stable seen inactive) ?_ ?_ ?_ ?_, ?_,
      ?_, fun c h1 h4 => ⟨fun ⟨present, inMask, due⟩ => ?granted, fun ⟨present, inMask, due⟩ => ?refused, fun out => ?out⟩,
      fun x => ?raised, ?_, ?_, ?_, ?_, ?_, ?_, ?_⟩
    case granted =>
      rw [comps, State.compAt_defrostRise, if_pos ⟨present, inMask⟩, Compartment.startEpisode,
        if_pos (Compartment.grants_iff.2 due)]
    case refused =>
      rw [comps, State.compAt_defrostRise, if_pos ⟨present, inMask⟩, Compartment.startEpisode,
        if_neg fun granted => due (Compartment.grants_iff.1 granted)]
    case out =>
      rw [comps, State.compAt_defrostRise, if_neg ?_]
      rintro ⟨present, inMask⟩
      rcases out with h | h <;> simp_all
    case raised =>
      rw [State.defrostRise_eq, ← State.refusesAllowance_iff]
      refine (State.mem_raise? x _ _).trans (or_congr Iff.rfl ?_)
      cases s.refusesAllowance <;> simp [eq_comm]
    all_goals rw [State.defrostRise_eq]; simp [State.setDefrost, State.mapPresentComps]
  case fall =>
    have comps : ∀ c, (((s.setDefrost false).mapPresentComps fun _ k => k.endEpisode s.now).evaluateLines).compAt c =
        if s.compPresent c then (s.compAt c).endEpisode s.now else s.compAt c := by
      intro c
      rw [State.compAt_evaluateLines, State.compAt_mapPresentComps]
      rfl
    refine ⟨_, happens_of rfl (State.defrostStable_of run stable seen active) rfl rfl rfl rfl, rfl, rfl,
      fun c h1 h4 => ⟨fun ⟨present, lasting⟩ => ?_, fun out => ?_⟩, rfl, rfl, rfl, rfl, rfl, rfl, rfl, rfl⟩
    · rw [comps, if_pos present, Compartment.endEpisode_eq, if_pos lasting]
      rfl
    · rw [comps]
      rcases out with absent | none
      · rw [if_neg (by simp [absent])]
      · rw [Compartment.endEpisode, none]
        exact ite_self _

/-! ### The deadline lapse -/

/-- A charged frozen interval (R140): with some of it past, the timing mark needs no other test. -/
theorem Record.thaw_eq {degraded : Bool} {lastDegraded : Option Nat} {frozenAt t : Nat} (r : Record)
    (h : frozenAt < t) :
    r.thaw degraded lastDegraded frozenAt t =
      { r with
        blindSeconds := min (r.blindSeconds + (t - frozenAt)) 4294967295
        custodySeconds := min (r.custodySeconds + (t - frozenAt)) 4294967295
        custody := .staged t
        marks :=
          { r.marks with
            timing := r.marks.timing || degraded || lastDegraded.any fun d => decide (frozenAt ≤ d) } } := by
  have passed : decide (0 < t - frozenAt) = true := by simp; omega
  simp only [Record.thaw, passed, Bool.true_and, timingEstimated, Bool.or_assoc, satAdd32, satAdd, maxU32]

/-- Settles O29 from what a due lapse does: the evaluation leaves the marks alone, so the lapsed mark is set beside those
of the charge. -/
theorem deadlineLapseReturnsToTheStage : Obligations.DeadlineLapseReturnsToTheStage := by
  intro h frozenAt r s supplied hr frozen later f timing charged evaluated
  obtain ⟨record, others, raised, index, members, stage, tb, ps, zm, pt, ae, hu, lines, li, free, pending⟩ :=
    State.lapse_spec hr frozen
  have thawed : r.thaw s.tb.degraded s.tb.lastDegraded frozenAt s.now = charged := r.thaw_eq later
  rw [thawed] at record raised
  have due : s.lapseDue h = true := (State.lapseDue_iff s h).2 ⟨supplied, r, frozenAt, hr, frozen, later⟩
  refine ⟨(s.lapse h).evaluateLines, happens_of rfl due lines li free pending, record.trans ?_, others, raised, index,
    members, stage, tb, ps, zm, pt, ae, hu⟩
  have marks : evaluated.1.marks = charged.marks := Record.evaluate_marks _ _
  rw [← marks]
  rfl

end Sys2Proof.Machine

/-! The link: what an inert, waiting or busy one does, the frame checks, responses (O30, O32, O33). -/

namespace Sys2Proof.Machine

/-! ### A link that takes no command -/

/-- A transaction the host clocks: a command, a frame, a short transaction, a response read (R177). -/
def Transacts (i : Instr) : Prop :=
  i.frame?.isSome = true ∨ (∃ w, i = .frameDiscarded w) ∨ (∃ b, i = .shortTransaction b) ∨ ∃ n, i = .responseRead n

theorem exec_transaction_inert {i : Instr} {s : State} (clocked : Transacts i) (inert : s.linkLive = false) :
    exec i s = .next s := by
  rcases clocked with command | ⟨w, rfl⟩ | ⟨b, rfl⟩ | ⟨n, rfl⟩
  · obtain ⟨fr, hfr⟩ := Option.isSome_iff_exists.1 command
    obtain ⟨code, body, -, hx⟩ := exec_command hfr
    rw [hx, State.receiveCommand_inert inert]
  · simp [exec, execFrameDiscarded, inert]
  · simp [exec, execShortTransaction, inert]
  · simp [exec, execResponseRead, inert]

theorem exec_transaction_waiting {i : Instr} {s : State} (clocked : Transacts i) (live : s.linkLive = true)
    (waits : s.li.waitRise = true) : exec i s = .next s.endIgnored := by
  rcases clocked with command | ⟨w, rfl⟩ | ⟨b, rfl⟩ | ⟨n, rfl⟩
  · obtain ⟨fr, hfr⟩ := Option.isSome_iff_exists.1 command
    obtain ⟨code, body, -, hx⟩ := exec_command hfr
    rw [hx, State.receiveCommand_waiting live waits]
  · simp [exec, execFrameDiscarded, live, waits]
  · simp [exec, execShortTransaction, live, waits]
  · simp [exec, execResponseRead, live, waits]

theorem State.linkLive_iff {s : State} : s.linkLive = true ↔ s.tb.power = .run ∧ s.tb.resetLow = false := by
  simp [State.linkLive, State.running]

/-- Settles O30: commands go through `State.receiveCommand`, whose three early outcomes the other transactions share. -/
theorem inertAndBusyLinkTakeNoCommand : Obligations.InertAndBusyLinkTakeNoCommand := by
  refine ⟨fun i s clocked => ⟨fun inert => ?inert, fun ⟨run, high, waits⟩ => ?waiting,
    fun ⟨run, high, idle⟩ b short => ?short⟩, fun s csnLow => ⟨fun off => ?floats, fun ⟨run, high, low, idle⟩ => ?drives⟩,
    fun s run high idle busy => ⟨fun whole => ?discarded, fun i fr hfr => ?command⟩⟩
  case inert => exact exec_transaction_inert clocked (State.linkLive_eq_false inert)
  case waiting => exact exec_transaction_waiting clocked (State.linkLive_iff.2 ⟨run, high⟩) waits
  case short =>
    subst short
    simp [exec, execShortTransaction, State.linkLive_iff.2 ⟨run, high⟩, idle]
  case floats =>
    rcases or_assoc.2 off with dead | rise
    · simp [State.sdoFloats, State.linkLive_eq_false dead]
    · simp [State.sdoFloats, rise]
  case drives => simp [State.sdoFloats, State.linkLive_iff.2 ⟨run, high⟩, low, idle]
  case discarded =>
    simp [exec, execFrameDiscarded, State.linkLive_iff.2 ⟨run, high⟩, idle, busy, State.discardFrame, commandSdo]
  case command =>
    obtain ⟨code, body, -, hx⟩ := exec_command hfr
    rw [hx, State.receiveCommand_busy (State.linkLive_iff.2 ⟨run, high⟩) idle busy]
    rfl

/-! ### The frame checks -/

theorem frameFormed_iff {fr : Frame} :
    frameFormed fr = true ↔ fr.whole = 2 + fr.len.toNat ∧ fr.len.toNat ≤ 40 ∧ fr.stray = 0 := by
  simp [frameFormed, payloadMax, and_assoc]

theorem frameRefusal?_of_malformed {code : Byte} {fr : Frame} (h : ¬frameFormed fr = true) :
    frameRefusal? code fr = some .framing := by
  simp [frameRefusal?, h]

/-- Settles O33: a frame refused by `frameRefusal?` is taken and answered, its body not reached. -/
theorem frameChecksInOrder : Obligations.FrameChecksInOrder := by
  intro i code fr s hs hcode hfr refusedWith
  obtain ⟨code', body, hcode', hx⟩ := exec_command hfr
  obtain rfl : code' = code := Option.some.inj (hcode'.symm.trans hcode)
  have refused : ∀ c, frameRefusal? code' fr = some c → refusedWith c := by
    intro c hc
    obtain ⟨-, -, idle, -⟩ := id hs
    show exec i s = _
    rw [hx, State.receiveCommand_framed hs hc]
    simp only [State.takeTransaction, State.setExecuting, commandSdo, refusal, idle]
  refine ⟨fun bad => refused _ (frameRefusal?_of_malformed ?_), fun good => ?_⟩
  · rw [frameFormed_iff]
    rintro ⟨whole, short, clean⟩
    rcases bad with h | h | h | h
    · exact h whole
    · omega
    · exact h clean
    · omega
  · have formed := frameFormed_iff.2 good
    refine ⟨fun unlisted => refused _ ?_, fun n listed unlike => refused _ ?_⟩
    · simp [frameRefusal?, formed, unlisted]
    · simp [frameRefusal?, formed, listed, Ne.symm unlike]

/-! ### Responses -/

theorem responseFlags_eq (overrun : Bool) (set : List Kind) :
    responseFlags overrun (!set.isEmpty) = (if overrun then 1 else 0) ||| (if set = [] then 0 else 2) := by
  cases overrun <;> cases set <;> rfl

theorem responseFlags_of_clear (set : List Kind) : responseFlags false (!set.isEmpty) = if set = [] then 0 else 2 := by
  rw [responseFlags_eq]
  exact BitVec.zero_or

/-- What a response read shifts out at each byte: FFh, the response, then 00h (R177, R181). -/
theorem shiftedOut_getElem? {n k : Nat} (hk : k < n) (response : List Byte) :
    (shiftedOut n response)[k]? = some (if k = 0 then 0xFF else response.getD (k - 1) 0x00) := by
  have inside : k < ((0xFF :: response) ++ List.replicate n (0 : Byte)).length := by simp; omega
  rw [shiftedOut, List.getElem?_take_of_lt hk]
  cases k with
  | zero => rfl
  | succ k =>
    rw [if_neg (by omega), List.cons_append, List.getElem?_cons_succ, Nat.add_sub_cancel, List.getD_eq_getElem?_getD]
    by_cases within : k < response.length
    · rw [List.getElem?_append_left within, List.getElem?_eq_getElem within, Option.getD_some]
    · rw [List.getElem?_append_right (by omega), List.getElem?_replicate, if_pos (by omega),
        List.getElem?_eq_none (by omega), Option.getD_none]

theorem length_shiftedOut (n : Nat) (response : List Byte) : (shiftedOut n response).length = n := by
  simp [shiftedOut]
  omega

/-- Settles O32: a read shifts out the bytes of the link's state; a response is formed in RUN alone. -/
theorem responsesAreFormedAndRead : Obligations.ResponsesAreFormedAndRead := by
  refine ⟨fun n s run high idle hn => ?read, fun r s executing => ⟨fun run => ?formed, fun backup => ?ended⟩⟩
  case read =>
    refine ⟨{ s with li := { s.li with receive := [], sdo := some (shiftedOut n s.readBytes) } }, ?_, rfl, _, rfl,
      length_shiftedOut _ _, fun k hk => ?_⟩
    · simp [exec, execResponseRead, State.linkLive_iff.2 ⟨run, high⟩, idle]
    · rw [shiftedOut_getElem? hk]
      congr 3
      unfold State.readBytes
      cases s.li.executing with
      | some r => simp only [responseBytes, responseFlags_eq]; rfl
      | none =>
        cases s.li.response with
        | some r => rfl
        | none => simp only [responseBytes, responseFlags_of_clear]; rfl
  case formed => simp [exec, execResponseReady, executing, run, State.formResponse, responseFlags_eq]
  case ended => simp [exec, execResponseReady, executing, backup]

end Sys2Proof.Machine

/-! Checks in order as a claim states them, and the queries (O34 to O37). -/

namespace Sys2Proof.Machine

/-! ### Checks in order -/

/-- A command's checks decide, one after the other, the conditions a claim lists for them, each under the conditions
before it having passed. -/
def ChecksMatch : List (Bool × ResultCode) → List (Prop × ResultCode) → Prop
  | [], [] => True
  | (fails, code) :: checks, (claim, code') :: claims =>
    code = code' ∧ (fails = true ↔ claim) ∧ (¬claim → ChecksMatch checks claims)
  | [], _ :: _ => False
  | _ :: _, [] => False

/-- No condition of a list of checks holds. -/
def NoneFails : List (Prop × ResultCode) → Prop
  | [] => True
  | (claim, _) :: claims => ¬claim ∧ NoneFails claims

theorem ChecksMatch.passes {checks : List (Bool × ResultCode)} {claims : List (Prop × ResultCode)}
    (h : ChecksMatch checks claims) (pass : NoneFails claims) : firstRefusal checks = none := by
  induction checks generalizing claims with
  | nil => rfl
  | cons check checks ih =>
    cases claims with
    | nil => exact h.elim
    | cons claim claims =>
      obtain ⟨-, decides, rest⟩ := h
      obtain ⟨holds, pass⟩ := pass
      rw [firstRefusal_cons_eq_none, Bool.eq_false_iff, Ne, decides]
      exact ⟨holds, ih (rest holds) pass⟩

/-- Where the first failing check decides the refusal, so does the first of the conditions that the checks decide. -/
theorem refusedInOrder_of_refuses {i : Instr} {n : Nat} {s : State} {checks : List (Bool × ResultCode)}
    {claims : List (Prop × ResultCode)} (refuses : ∀ c, firstRefusal checks = some c → Refuses i n s c)
    (h : ChecksMatch checks claims) : RefusedInOrder i n s claims := by
  induction checks generalizing claims with
  | nil =>
    cases claims with
    | nil => trivial
    | cons _ _ => exact h.elim
  | cons check checks ih =>
    cases claims with
    | nil => exact h.elim
    | cons claim claims =>
      obtain ⟨same, decides, rest⟩ := h
      refine ⟨fun fails => ?_, fun passes => ih (fun c hc => refuses c ?_) (rest passes)⟩
      · rw [← same]
        exact refuses _ (if_pos (decides.2 fails))
      · rw [← hc]
        exact if_neg fun fails => passes (decides.1 fails)

/-- A command refuses with the first of the conditions that its checks decide (R84). -/
theorem refusedInOrder_of {i : Instr} {code : Byte} {n : Nat} {checks : State → List (Bool × ResultCode)}
    {effect : State → State × Reply} {s : State} {claims : List (Prop × ResultCode)}
    (hx : exec i s = .next (s.receiveCommand code (Frame.exact n) (command checks effect))) (hs : s.ready)
    (hn : payloadLength? code = some n) (h40 : n ≤ 40) (h : ChecksMatch (checks (s.takeTransaction (2 + n))) claims) :
    RefusedInOrder i n s claims :=
  refusedInOrder_of_refuses (fun _ hc => refuses_of hx hs hn h40 hc) h

/-- A command whose checks all pass is carried out as its effect says. -/
theorem carried_of_checks {i : Instr} {code : Byte} {n : Nat} {checks : State → List (Bool × ResultCode)}
    {effect : State → State × Reply} {s m : State} {r : Reply} {claims : List (Prop × ResultCode)}
    (hx : exec i s = .next (s.receiveCommand code (Frame.exact n) (command checks effect))) (hs : s.ready)
    (hn : payloadLength? code = some n) (h40 : n ≤ 40) (h : ChecksMatch (checks (s.takeTransaction (2 + n))) claims)
    (pass : NoneFails claims) (he : effect (s.takeTransaction (2 + n)) = (m, r))
    (hli : m.li = (s.takeTransaction (2 + n)).li) (hl : m.au.lines = s.au.lines)
    (hf : m.freeCount = s.freeCount) (hp : m.pending = s.pending) :
    Carried i n s (m.setExecuting r).evaluateLines r :=
  carried_of hx hs hn h40 ((command_carried (h.passes pass)).trans he) hli hl hf hp

/-- An answer may be read in another form of its payload. -/
theorem carried_payload {i : Instr} {n : Nat} {s t : State} {c : ResultCode} {p q : List Byte} (h : p = q)
    (carried : Carried i n s t ⟨c, q⟩) : Carried i n s t ⟨c, p⟩ := h ▸ carried

/-- The state after a command that changes no block: the transaction taken, the answer held, the lines evaluated. -/
def State.answeredWith (whole : Nat) (r : Reply) (s : State) : State :=
  ((s.takeTransaction whole).setExecuting r).evaluateLines

theorem unmoved_answeredWith (whole : Nat) (r : Reply) (s : State) : Unmoved s (s.answeredWith whole r) :=
  ⟨rfl, rfl, rfl, rfl, rfl, rfl, rfl⟩

/-! ### FIND and VIEW -/

theorem byte_toNat (b : Byte) : byte b.toNat = b := BitVec.ofNat_toNat 8 b

/-- The marks byte as a sum, each mark in its own bit (R185). -/
theorem statusByte_toNat (status : Status) (m : Marks) :
    (statusByte status m).toNat =
      status.ordinal + 4 * m.timing.toNat + 8 * m.adopted.toNat + 16 * m.aboveNow.toNat + 32 * m.belowNow.toNat +
        64 * m.lapsed.toNat := by
  have bits : ∀ o < 4, ∀ a b c d e : Bool,
      (byte o ||| bit 2 a ||| bit 3 b ||| bit 4 c ||| bit 5 d ||| bit 6 e).toNat =
        o + 4 * a.toNat + 8 * b.toNat + 16 * c.toNat + 32 * d.toNat + 64 * e.toNat := by decide
  exact bits _ (Nat.lt_succ_of_le status.ordinal_le) _ _ _ _ _

/-- In an exact index a record's ID finds its handle, and no other, since IDs ascend strictly (R78). -/
theorem State.indexed.findId?_eq_some {s : State} (indexed : s.indexed) {h : Nat} {r : Record}
    (hr : s.record? h = some r) : s.findId? r.id = some h := by
  cases found : s.findId? r.id with
  | none => exact absurd rfl ((indexed.findId?_eq_none).1 found h r hr)
  | some k =>
    obtain ⟨exact_, ascending⟩ := indexed
    have same := List.find?_some found
    obtain ⟨q, hq⟩ := Option.isSome_iff_exists.1 ((exact_ k).1 (List.mem_of_find?_eq_some found))
    have sameId : q.id = r.id := by simpa [hq] using same
    obtain ⟨i, hi, rfl⟩ := List.getElem_of_mem (List.mem_of_find?_eq_some found)
    obtain ⟨j, hj, rfl⟩ := List.getElem_of_mem ((exact_ h).2 (by rw [hr]; rfl))
    rw [List.pairwise_iff_getElem] at ascending
    rcases Nat.lt_trichotomy i j with before | rfl | after
    · exact absurd (ascending i j hi hj before q r hq hr) (by rw [sameId]; exact lt_irrefl _)
    · rfl
    · exact absurd (ascending j i hj hi after r q hr hq) (by rw [sameId]; exact lt_irrefl _)

/-- The answer and the state of FIND (R155). -/
def State.findReply (id : Word32) (s : State) : Reply :=
  match s.findId? id with
  | none => refusal .notFound
  | some h => okReply [byte h]

theorem carried_find {s : State} (hs : s.ready) (id : Word32) :
    Carried (.find (Frame.exact 4) id) 4 s (s.answeredWith 6 (s.findReply id)) (s.findReply id) := by
  refine carried_of (code := 0x03) rfl hs rfl (by decide) ?_ rfl rfl rfl rfl
  show (match s.findId? id with
    | none => (s.takeTransaction 6, refusal .notFound)
    | some h => (s.takeTransaction 6, okReply [byte h])) = _
  unfold State.findReply
  cases s.findId? id <;> rfl

theorem checksMatch_view (h : Byte) (s : State) :
    ChecksMatch [(decide (47 < h.toNat), .range), ((s.record? h.toNat).isNone, .staleHandle)]
      [(47 < h.toNat, .range), (s.record? h.toNat = none, .staleHandle)] :=
  ⟨rfl, decide_eq_true_iff, fun _ => ⟨rfl, Option.isNone_iff_eq_none, fun _ => trivial⟩⟩

/-- Settles O35: FIND looks the ID up in an exact index; VIEW is the layout of R157 over the record of its slot. -/
theorem findAndViewReachTheRecord : Obligations.FindAndViewReachTheRecord := by
  refine ⟨fun id s hs indexed => ⟨fun h r hr hid => ?found, fun unknown => ?notFound⟩,
    fun h s hs => ⟨?refused, fun r hr => ?view⟩⟩
  case found =>
    have carried := carried_find hs id
    have reply : s.findReply id = okReply [byte h] := by
      rw [State.findReply, ← hid, indexed.findId?_eq_some hr]
    rw [reply] at carried
    exact ⟨_, carried, unmoved_answeredWith _ _ s, rfl⟩
  case notFound =>
    have carried := carried_find hs id
    have reply : s.findReply id = refusal .notFound := by
      rw [State.findReply, indexed.findId?_eq_none.2 unknown]
    rw [reply] at carried
    exact ⟨_, carried, unmoved_answeredWith _ _ s, rfl⟩
  case refused => exact refusedInOrder_of rfl hs rfl (by decide) (checksMatch_view h s)
  case view =>
    intro state place status
    have carried := carried_of_checks (i := .view (Frame.exact 1) h) rfl hs rfl (by decide) (checksMatch_view h s)
      ⟨by have := State.lt_of_record? hr; omega, by simp [hr], trivial⟩ rfl rfl rfl rfl rfl
    have view : (s.takeTransaction 3).viewOf h.toNat = recordView h.toNat r := by
      show s.viewOf h.toNat = _
      rw [State.viewOf, hr]
    rw [view] at carried
    refine ⟨_, statusByte r.status r.marks, carried_payload ?_ carried, ?_, ⟨rfl, rfl, rfl, rfl, rfl, rfl, rfl⟩, rfl⟩
    · have coded : state = r.custody.stateCode + 16 * r.custody.closeCode := by
        simp only [state]
        cases r.custody with
        | closed k => cases k <;> rfl
        | _ => rfl
      rw [coded, recordView, byte_toNat]
      rfl
    · rw [statusByte_toNat]
      rfl

end Sys2Proof.Machine

/-! SURVEY, the other queries, STATUS and ATTENTION (O34, O36, O37). -/

namespace Sys2Proof.Machine

/-! ### SURVEY -/

theorem surveyTest_iff {c : Byte} (hc : c.toNat ≤ 3) (x v : Nat) :
    surveyTest c.toNat x v = true ↔ (c = 0 → x = v) ∧ (c = 1 → x ≠ v) ∧ (c = 2 → v ≤ x) ∧ (c = 3 → x < v) := by
  have numbers : c = 0 ∨ c = 1 ∨ c = 2 ∨ c = 3 := by bv_omega
  rcases numbers with rfl | rfl | rfl | rfl <;> simp [surveyTest]

theorem State.mem_surveyMatches {s : State} {f c v start h : Nat} :
    h ∈ s.surveyMatches f c v start ↔
      start ≤ h ∧ ∃ r, s.record? h = some r ∧ surveyTest c (surveyField f r) v = true := by
  simp only [State.surveyMatches, List.mem_filter, List.mem_range, Bool.and_eq_true, decide_eq_true_iff,
    Option.any_eq_true]
  refine ⟨And.right, fun matched => ⟨?_, matched⟩⟩
  obtain ⟨-, r, hr, -⟩ := matched
  exact State.lt_of_record? hr

theorem State.surveyMatches_ascending (s : State) (f c v start : Nat) :
    (s.surveyMatches f c v start).Pairwise (· < ·) := List.pairwise_lt_range.filter _

theorem getLastD_of_ne_nil {l : List Nat} (h : l ≠ []) (a b : Nat) : l.getLastD a = l.getLastD b := by
  rw [List.getLastD_eq_getLast?, List.getLastD_eq_getLast?, List.getLast?_eq_some_getLast h]
  rfl

theorem surveyNext_inside {page : List Nat} (full : page.length = 32) (below : page.getLastD 0 < 47) :
    surveyNext page = BitVec.ofNat 8 (page.getLastD 0 + 1) := by
  have last := getLastD_of_ne_nil (l := page) (by rintro rfl; simp at full) 47 0
  rw [surveyNext, last, if_pos ⟨full, below⟩]
  rfl

theorem surveyNext_end {page : List Nat} (last : page.length < 32 ∨ page.getLastD 0 = 47) : surveyNext page = 0xFF := by
  rw [surveyNext, if_neg]
  rintro ⟨full, below⟩
  rw [getLastD_of_ne_nil (by rintro rfl; simp at full) 47 0] at below
  have : page.length = 32 := full
  omega

theorem checksMatch_survey (f c start : Byte) :
    ChecksMatch [(decide (8 < f.toNat) || decide (3 < c.toNat) || decide (47 < start.toNat), .range)]
      [(8 < f.toNat ∨ 3 < c.toNat ∨ 47 < start.toNat, .range)] :=
  ⟨rfl, by simp [or_assoc], fun _ => trivial⟩

/-- Settles O36: the page is the first 32 of the matching handles, the rest of them the matches it leaves. -/
theorem surveyPagesTheTable : Obligations.SurveyPagesTheTable := by
  refine fun f c v start s hs => ⟨?refused, fun hf hc hstart => ?page⟩
  case refused =>
    exact (refusedInOrder_of (i := .survey (Frame.exact 7) f c v start) rfl hs rfl (by decide)
      (checksMatch_survey f c start)).1
  case page =>
    have carried := carried_of_checks (i := .survey (Frame.exact 7) f c v start) rfl hs rfl (by decide)
      (checksMatch_survey f c start) ⟨by omega, trivial⟩ rfl rfl rfl rfl rfl
    have all := List.take_append_drop 32 (s.surveyMatches f.toNat c.toNat v.toNat start.toNat)
    refine ⟨_, (s.surveyMatches f.toNat c.toNat v.toNat start.toNat).take 32,
      (s.surveyMatches f.toNat c.toNat v.toNat start.toNat).drop 32, _, carried, ⟨rfl, rfl, rfl, rfl, rfl, rfl, rfl⟩, rfl,
      ?_, by simp, fun more => ?_, fun h => ?_, fun ⟨full, below⟩ => surveyNext_inside full below, surveyNext_end⟩
    · rw [all]
      exact s.surveyMatches_ascending _ _ _ _
    · have : 32 < (s.surveyMatches f.toNat c.toNat v.toNat start.toNat).length := by
        by_contra short
        exact more (List.drop_of_length_le (by omega))
      simp only [List.length_take]
      omega
    · rw [all, State.mem_surveyMatches]
      simp only [surveyTest_iff hc]
      rfl

/-! ### ZONE, PROBE, PROFILE and DOOR -/

theorem zoneFlags_eq (opened dwell episode granted : Bool) :
    zoneFlags opened dwell episode granted =
      BitVec.ofNat 8 (opened.toNat + 2 * dwell.toNat + 4 * episode.toNat + 8 * granted.toNat) := by
  decide +revert

theorem doorFlags_eq (opened overrun dwell present reported : Bool) :
    doorFlags opened overrun dwell present reported =
      BitVec.ofNat 8 (opened.toNat + 2 * overrun.toNat + 4 * dwell.toNat + 8 * present.toNat + 16 * reported.toNat) := by
  decide +revert


theorem byte_eq_five_iff (z : Byte) : z.toNat = 5 ↔ z = 5 := by bv_omega

theorem Option.any_isSome_eq_isSome_bind {α β : Type} (x : Option α) (f : α → Option β) :
    (x.any fun a => (f a).isSome) = (x.bind f).isSome := by
  cases x <;> rfl

theorem checksMatch_zone (z : Byte) (s : State) :
    ChecksMatch [(!s.zonePresent z.toNat, .range)] [(s.zonePresent z.toNat = false, .range)] :=
  ⟨rfl, by simp, fun _ => trivial⟩

theorem checksMatch_probe (p : Byte) :
    ChecksMatch [(decide (7 < p.toNat), .range)] [(7 < p.toNat, .range)] :=
  ⟨rfl, decide_eq_true_iff, fun _ => trivial⟩

theorem checksMatch_door (c : Byte) (s : State) :
    ChecksMatch [(!s.compPresent c.toNat, .range)] [(s.compPresent c.toNat = false, .range)] :=
  ⟨rfl, by simp, fun _ => trivial⟩

/-- The flags of the ZONE response, all clear for zone 5 (R161). -/
theorem zonePayload_flags (z : Byte) (k : Compartment) :
    (if z.toNat = 5 then 0
      else zoneFlags k.doorOpen k.dwellFlag k.episode.isSome (k.episode.bind Episode.allowance).isSome) =
    BitVec.ofNat 8 (if z = 5 then 0
      else k.doorOpen.toNat + 2 * k.dwellFlag.toNat + 4 * k.episode.isSome.toNat +
        8 * (k.episode.any fun e => e.allowance.isSome).toNat) := by
  rw [Option.any_isSome_eq_isSome_bind, zoneFlags_eq]
  by_cases five : z = 5
  · rw [if_pos five, if_pos ((byte_eq_five_iff z).2 five)]
    rfl
  · rw [if_neg five, if_neg fun h => five ((byte_eq_five_iff z).1 h)]

theorem zoneMembers_toNat (s : State) (z : Byte) :
    s.zoneMembers z.toNat = if z = 5 then s.ct.stage else s.membersOf z.toNat := by
  simp only [State.zoneMembers, byte_eq_five_iff]

/-- A reading as PROBE shows it, 8000h where there is none (R163). -/
def readingField (x : Option Int) : List Byte :=
  match x with
  | none => [0x80, 0x00]
  | some x => int16 x

/-- A probe's four window fields, oldest first (R163). -/
theorem windowField_eq (w : List Int) :
    windowField w = readingField w[0]? ++ (readingField w[1]? ++ (readingField w[2]? ++ readingField w[3]?)) := by
  have fields : windowField w = (List.range 4).flatMap fun i => readingField w[i]? := by
    refine List.flatMap_congr fun i _ => ?_
    cases w[i]? <;> rfl
  rw [fields]
  simp [List.range, List.range.loop]

theorem State.probePayload_eq (s : State) (p : Nat) :
    s.probePayload p =
      [byte p, byte (s.probeAt p).state.number, byte (s.probeAt p).zone, byte (s.probeAt p).rejects,
        bit 0 (s.probeAt p).clamped] ++ nat16 (s.probeAt p).lastCount ++ int32 (s.probeAt p).lastTemp ++
        [byte (s.probeAt p).window.length] ++ readingField (probeValue? (s.probeAt p).window) ++
        windowField (s.probeAt p).window := by
  unfold State.probePayload
  dsimp only
  cases probeValue? (s.probeAt p).window <;> rfl

/-- Settles O37: each query is one check and one layout; DOOR marks the opening it returned. -/
theorem zonesProbesProfilesAndDoorsAreReported : Obligations.ZonesProbesProfilesAndDoorsAreReported := by
  refine ⟨⟨fun z s hs => ⟨?noZone, fun present => ?zone⟩, fun p s hs => ⟨?noProbe, fun within short => ?probe⟩,
    fun i s hs => ⟨?noProfile, fun within => ?profile⟩⟩, fun c s hs => ⟨?noDoor, fun present => ?door⟩⟩
  case noZone =>
    exact (refusedInOrder_of (i := .zone (Frame.exact 1) z) rfl hs rfl (by decide) (checksMatch_zone z s)).1
  case zone =>
    intro zn k members flags
    have carried := carried_of_checks (i := .zone (Frame.exact 1) z) rfl hs rfl (by decide) (checksMatch_zone z s)
      ⟨by simp [present], trivial⟩ rfl rfl rfl rfl rfl
    refine ⟨_, carried_payload ?_ carried, ⟨rfl, rfl, rfl, rfl, rfl, rfl, rfl⟩, rfl⟩
    show _ = s.zonePayload z.toNat
    simp only [State.zonePayload, zonePayload_flags, zoneMembers_toNat, byte_toNat]
    congr 7
    cases zn.sensing <;> rfl
  case noProbe =>
    exact (refusedInOrder_of (i := .probe (Frame.exact 1) p) rfl hs rfl (by decide) (checksMatch_probe p)).1
  case probe =>
    intro k shown
    have carried := carried_of_checks (i := .probe (Frame.exact 1) p) rfl hs rfl (by decide) (checksMatch_probe p)
      ⟨by omega, trivial⟩ rfl rfl rfl rfl rfl
    refine ⟨_, carried_payload ?_ carried, ⟨rfl, rfl, rfl, rfl, rfl, rfl, rfl⟩, rfl⟩
    show _ = s.probePayload p.toNat
    have shows : shown = readingField := by funext x; cases x <;> rfl
    rw [shows, State.probePayload_eq, windowField_eq, byte_toNat]
    simp only [List.append_assoc]
    congr 3
    cases k.state <;> rfl
  case noProfile =>
    exact (refusedInOrder_of (i := .profile (Frame.exact 1) i) rfl hs rfl (by decide) (checksMatch_probe i)).1
  case profile =>
    intro p
    have carried := carried_of_checks (i := .profile (Frame.exact 1) i) rfl hs rfl (by decide) (checksMatch_probe i)
      ⟨by omega, trivial⟩ rfl rfl rfl rfl rfl
    refine ⟨_, carried_payload ?_ carried, ⟨rfl, rfl, rfl, rfl, rfl, rfl, rfl⟩, rfl⟩
    show _ = s.profilePayload i.toNat
    simp only [State.profilePayload, byte_toNat]
    rfl
  case noDoor =>
    exact (refusedInOrder_of (i := .door (Frame.exact 1) c) rfl hs rfl (by decide) (checksMatch_door c s)).1
  case door =>
    intro k flags
    have carried := carried_of_checks (i := .door (Frame.exact 1) c) rfl hs rfl (by decide) (checksMatch_door c s)
      ⟨by simp [present], trivial⟩ rfl rfl rfl rfl rfl
    refine ⟨_, carried_payload ?_ carried, ?_, fun d other => ?_, rfl, rfl, rfl, rfl, rfl, rfl, rfl, rfl, rfl, rfl, rfl⟩
    · show _ = s.doorPayload c.toNat
      simp only [State.doorPayload, byte_toNat, doorFlags_eq, List.append_assoc]
      congr 2
      cases k.opening <;> rfl
    · exact State.compAt_modifyComp_same (s := s) present _
    · exact State.compAt_modifyComp_other (s := s) other _

/-! ### STATUS and ATTENTION -/

/-- Setting the bit of each kind present, over any list of kinds. -/
theorem foldl_setBits_getLsbD (set kinds : List Kind) (m : Word16) {k : Nat} (hk : k < 16) :
    (kinds.foldl (fun m x => if set.contains x then m ||| ((1 : Word16) <<< x.bitNumber) else m) m).getLsbD k = true ↔
      m.getLsbD k = true ∨ ∃ x ∈ kinds, x ∈ set ∧ k = x.bitNumber := by
  induction kinds generalizing m with
  | nil => simp
  | cons x kinds ih =>
    have single : ((1 : Word16) <<< x.bitNumber).getLsbD k = true ↔ k = x.bitNumber := by
      rw [BitVec.getLsbD_shiftLeft]
      simp only [hk, decide_true, Bool.true_and, Bool.and_eq_true, Bool.not_eq_true', decide_eq_false_iff_not]
      rw [show (1 : Word16) = 1#16 from rfl, BitVec.getLsbD_one]
      simp
      omega
    rw [List.foldl_cons, ih, List.exists_mem_cons_iff]
    split
    next present =>
      rw [BitVec.getLsbD_or, Bool.or_eq_true, single, or_assoc]
      simp [List.contains_iff_mem.1 present]
    next absent =>
      simp [show x ∉ set from fun mem => absent (List.contains_iff_mem.2 mem)]

/-- The attention mask has the bit of each kind present set, and no other (R165, R168). -/
theorem attentionMask_getLsbD (set : List Kind) {k : Nat} (hk : k < 16) :
    (attentionMask set).getLsbD k = true ↔ ∃ x ∈ set, k = x.bitNumber := by
  have all : ∀ x, x ∈ Kind.all := by intro x; cases x <;> decide
  rw [attentionMask, foldl_setBits_getLsbD _ _ _ hk]
  simp [all]

theorem State.attnLow_iff {s : State} (run : s.tb.power = .run) : s.attnLow = true ↔ s.au.attention ≠ [] := by
  simp [State.attnLow, State.running_of run]

/-- The state after STATUS: the expiries of the second taken, the layout of R165 held as the answer. -/
def State.statusAnswered (s : State) : State :=
  (({ s.takeExpiries with li := (s.takeTransaction 2).li } : State).setExecuting
    (okReply s.takeExpiries.statusPayload)).evaluateLines

theorem carried_status {s : State} (hs : s.ready) :
    Carried (.status (Frame.exact 0)) 0 s s.statusAnswered (okReply s.takeExpiries.statusPayload) := by
  obtain ⟨-, -, -, -, -, -, -, -, lines, -, free, pending⟩ := s.takeExpiries_stands
  have taken : (s.takeTransaction 2).takeExpiries = { s.takeExpiries with li := (s.takeTransaction 2).li } :=
    s.takeExpiries_li _
  refine carried_of (code := 0x01) rfl hs rfl (by decide) ?_ rfl lines free pending
  show ((s.takeTransaction 2).takeExpiries, okReply (s.takeTransaction 2).takeExpiries.statusPayload) = _
  rw [taken]
  rfl

/-- Settles O34: the expiries leave the time base alone, so STATUS shows the figures of `s` and the counts and kinds after
them; the mask is read bit by bit. -/
theorem statusAndAttentionReport : Obligations.StatusAndAttentionReport := by
  refine ⟨fun s hs => ?status, fun s hs => ?attention⟩
  case status =>
    obtain ⟨tb, ps, pt, ae, hu, -, -, -, -, -, -, -⟩ := s.takeExpiries_stands
    have run : s.statusAnswered.tb.power = .run := by
      show s.takeExpiries.tb.power = .run
      rw [tb]
      exact hs.1
    obtain ⟨u, rows, zm, ct, attention⟩ := s.expiriesTaken_takeExpiries
    refine ⟨s.statusAnswered, attentionMask s.takeExpiries.au.attention, carried_payload ?_ (carried_status hs),
      fun k hk => attentionMask_getLsbD _ hk, State.attnLow_iff run, ⟨u, rows, zm, ct, attention⟩, tb, ps, pt, ae, hu,
      fun idle => ?_⟩
    · simp only [State.statusPayload, State.now, tb]
      rfl
    · have stays := State.takeExpiries_idle idle
      have zm' : s.takeExpiries.zm = s.zm := by rw [stays]
      have ct' : s.takeExpiries.ct = s.ct := by rw [stays]
      have attention' : s.takeExpiries.au.attention = s.au.attention := by rw [stays]
      exact ⟨⟨tb, ps, zm', pt, ct', ae, hu⟩, attention'⟩
  case attention =>
    have carried := carried_of (i := .attention (Frame.exact 0)) (code := 0x02) rfl hs rfl (by decide) rfl rfl rfl rfl rfl
    exact ⟨_, attentionMask s.au.attention, carried, fun k hk => attentionMask_getLsbD _ hk, rfl,
      by simp [State.attnLow], rfl, rfl, rfl, rfl, rfl, rfl, rfl⟩

end Sys2Proof.Machine

/-! The settings commands (O38 to O42, O44). -/

namespace Sys2Proof.Machine

/-! ### FIX_TICK and SET_HANDOVER -/

theorem checksMatch_fixTick (v : Byte) (s : State) :
    ChecksMatch [(s.tb.interval.isSome, .alreadyFixed), (!tickIntervals.contains v.toNat, .range)]
      [(s.tb.interval ≠ none, .alreadyFixed), (v.toNat ∉ [10, 15, 20, 30, 60], .range)] :=
  ⟨rfl, Option.isSome_iff_ne_none, fun _ => ⟨rfl, by simp [tickIntervals], fun _ => trivial⟩⟩

theorem checksMatch_setHandover (w : Word16) :
    ChecksMatch [(decide (w.toNat < windowLow) || decide (windowHigh < w.toNat), .range)]
      [(w.toNat < 30 ∨ 3600 < w.toNat, .range)] :=
  ⟨rfl, by simp, fun _ => trivial⟩

/-- Settles O38: each command is its checks and one field written. -/
theorem tickIntervalAndWindowAreSet : Obligations.TickIntervalAndWindowAreSet := by
  refine ⟨fun v s hs => ⟨?tickRefused, fun unfixed listed => ?tick⟩, fun w s hs => ⟨?windowRefused, fun within => ?window⟩⟩
  case tickRefused => exact refusedInOrder_of rfl hs rfl (by decide) (checksMatch_fixTick v s)
  case tick =>
    have carried := carried_of_checks (i := .fixTick (Frame.exact 1) v) rfl hs rfl (by decide) (checksMatch_fixTick v s)
      ⟨fun fixed => fixed unfixed, fun out => out listed, trivial⟩ rfl rfl rfl rfl rfl
    exact ⟨_, carried, rfl, rfl, rfl, rfl, rfl, rfl, rfl, rfl⟩
  case windowRefused =>
    exact (refusedInOrder_of (i := .setHandover (Frame.exact 2) w) rfl hs rfl (by decide) (checksMatch_setHandover w)).1
  case window =>
    have carried := carried_of_checks (i := .setHandover (Frame.exact 2) w) rfl hs rfl (by decide)
      (checksMatch_setHandover w) ⟨by omega, trivial⟩ rfl rfl rfl rfl rfl
    exact ⟨_, carried, rfl, rfl, rfl, rfl, rfl, rfl, rfl, rfl⟩

/-! ### SET_PROBE and SET_ZONE -/

theorem byte_eq_zero_iff (b : Byte) : b.toNat = 0 ↔ b = 0 := by bv_omega

theorem checksMatch_setProbe (p z : Byte) (gain : Word16) (s : State) :
    ChecksMatch
      [(decide (7 < p.toNat) || (z.toNat != 0 && !s.zonePresent z.toNat) || gainOutOfRange gain.toInt, .range)]
      [(7 < p.toNat ∨ (z ≠ 0 ∧ s.zonePresent z.toNat = false) ∨ gain.toInt = 0 ∨ gain.toInt < -4095 ∨ 4095 < gain.toInt,
        .range)] :=
  ⟨rfl, by simp [gainOutOfRange, gainLimit, or_assoc, byte_eq_zero_iff], fun _ => trivial⟩

/-- Settles O39: one check and one probe configured. -/
theorem setProbeRestartsTheProbe : Obligations.SetProbeRestartsTheProbe := by
  refine fun p z zero gain s hs => ⟨?refused, fun hp hz nonzero low high => ?set⟩
  case refused =>
    exact (refusedInOrder_of (i := .setProbe (Frame.exact 6) p z zero gain) rfl hs rfl (by decide)
      (checksMatch_setProbe p z gain s)).1
  case set =>
    have passes : ¬(7 < p.toNat ∨ (z ≠ 0 ∧ s.zonePresent z.toNat = false) ∨ gain.toInt = 0 ∨ gain.toInt < -4095 ∨
        4095 < gain.toInt) := by
      rintro (h | ⟨named, absent⟩ | h | h | h)
      · omega
      · rcases hz with unnamed | present
        · exact named unnamed
        · simp [present] at absent
      · exact nonzero h
      · omega
      · omega
    have carried := carried_of_checks (i := .setProbe (Frame.exact 6) p z zero gain) rfl hs rfl (by decide)
      (checksMatch_setProbe p z gain s) ⟨passes, trivial⟩ rfl rfl rfl rfl rfl
    refine ⟨_, carried, ?_, fun q other => ?_, rfl, rfl, rfl, rfl, rfl, rfl, rfl, rfl⟩
    · refine (State.probeAt_modifyProbe s p.toNat p.toNat _).trans ?_
      rw [if_pos ⟨rfl, by omega⟩, Probe.configure]
      simp only [byte_eq_zero_iff]
    · exact (State.probeAt_modifyProbe s p.toNat q _).trans (if_neg fun here => other here.1)

/-- The settings SET_ZONE stores for a compartment (R40). -/
def Compartment.settings (cap il : Byte) (dwell : Word16) (a : Byte) (m sp : Word16) (c : Compartment) : Compartment :=
  { c with
    capacity := cap.toNat, interlock := il == 1, dwellLimit := dwell.toNat, raise := a.toNat
    defrostMax := m.toNat, spacing := sp.toNat }

/-- The state SET_ZONE makes: the settings stored, those of a compartment where the zone is one (R40). -/
def State.zoneSet (z lag : Byte) (hold : Word16) (f : Compartment → Compartment) (s : State) : State :=
  (s.modifyZone z.toNat fun x => { x with lag := lag.toNat, hold := hold.toNat }).modifyComp z.toNat f

theorem State.zonePresent_bounds {s : State} {z : Nat} (present : s.zonePresent z = true) : 1 ≤ z ∧ z ≤ 5 := by
  simp only [State.zonePresent, Bool.or_eq_true, beq_iff_eq, State.compPresent_iff] at present
  omega

/-- A compartment setting out of range, or a capacity below the member count (R38, R39). -/
def CompSettingsBad (cap il : Byte) (dwell : Word16) (a : Byte) (m sp : Word16) (members : Nat) : Prop :=
  cap.toNat < 1 ∨ 24 < cap.toNat ∨ 1 < il.toNat ∨ 3600 < dwell.toNat ∨ 100 < a.toNat ∨ m.toNat < 60 ∨
    3600 < m.toNat ∨ 14400 < sp.toNat ∨ cap.toNat < members

theorem compSettingsOutOfRange_iff {cap il : Byte} {dwell : Word16} {a : Byte} {m sp : Word16} {members : Nat} :
    compSettingsOutOfRange cap.toNat il.toNat dwell.toNat a.toNat m.toNat sp.toNat members = true ↔
      CompSettingsBad cap il dwell a m sp members := by
  simp [compSettingsOutOfRange, CompSettingsBad, or_assoc]

theorem checksMatch_setZone (z lag : Byte) (hold : Word16) (cap il : Byte) (dwell : Word16) (a : Byte) (m sp : Word16)
    (s : State) :
    ChecksMatch
      [(!s.zonePresent z.toNat || decide (lagMax < lag.toNat) || decide (holdMax < hold.toNat) ||
          (z.toNat != 5 &&
            compSettingsOutOfRange cap.toNat il.toNat dwell.toNat a.toNat m.toNat sp.toNat
              (s.membersOf z.toNat).length), .range)]
      [(s.zonePresent z.toNat = false ∨ 11 < lag.toNat ∨ 600 < hold.toNat ∨
        (z ≠ 5 ∧ CompSettingsBad cap il dwell a m sp (s.membersOf z.toNat).length), .range)] :=
  ⟨rfl, by simp [or_assoc, byte_eq_five_iff, compSettingsOutOfRange_iff], fun _ => trivial⟩

/-- Settles O40: one check and the settings of the zone stored, those of a compartment where it is one. -/
theorem setZoneStoresTheSettings : Obligations.SetZoneStoresTheSettings := by
  refine fun z lag hold cap il dwell a m sp s hs => ⟨?refused, fun good => ?set⟩
  case refused =>
    exact (refusedInOrder_of (i := .setZone (Frame.exact 13) z lag hold cap il dwell a m sp) rfl hs rfl (by decide)
      (checksMatch_setZone z lag hold cap il dwell a m sp s)).1
  case set =>
    have carried := carried_of_checks (i := .setZone (Frame.exact 13) z lag hold cap il dwell a m sp) rfl hs rfl
      (by decide) (checksMatch_setZone z lag hold cap il dwell a m sp s) ⟨good, trivial⟩ rfl rfl rfl rfl rfl
    have present : s.zonePresent z.toNat = true := by
      by_contra absent
      exact good (.inl (Bool.eq_false_iff.2 absent))
    obtain ⟨low, high⟩ := State.zonePresent_bounds present
    have zone : ∀ y, (s.zoneSet z lag hold (Compartment.settings cap il dwell a m sp)).zoneAt y =
        if y = z.toNat then { s.zoneAt z.toNat with lag := lag.toNat, hold := hold.toNat } else s.zoneAt y := by
      intro y
      rw [State.zoneSet, State.zoneAt_modifyComp, State.zoneAt_modifyZone]
      simp only [low, high, and_true]
    have comp : ∀ c, (s.zoneSet z lag hold (Compartment.settings cap il dwell a m sp)).compAt c =
        if c = z.toNat ∧ z.toNat ≤ 4 then (s.compAt z.toNat).settings cap il dwell a m sp else s.compAt c := by
      intro c
      rw [State.zoneSet, State.compAt_modifyComp]
      simp only [low, true_and, State.compAt_modifyZone]
    refine ⟨_, carried, (zone _).trans (if_pos rfl), fun y other => (zone y).trans (if_neg other), fun notAmbient => ?_,
      fun c out => (comp c).trans (if_neg ?_), rfl, rfl, rfl, rfl, rfl, rfl, rfl, rfl, rfl, rfl⟩
    · have : z.toNat ≠ 5 := fun h => notAmbient ((byte_eq_five_iff z).1 h)
      refine (comp _).trans ((if_pos ⟨rfl, by omega⟩).trans ?_)
      rw [Compartment.settings, beq_eq_decide]
    · rintro ⟨rfl, inside⟩
      rcases out with other | rfl
      · exact other rfl
      · exact absurd inside (by decide)

/-! ### SET_DEFROST_MASK -/

theorem State.maskOutOfRange_iff {s : State} {m : Byte} :
    s.maskOutOfRange m = true ↔ ∃ b, b < 8 ∧ m.getLsbD b = true ∧ s.compPresent (b + 1) = false := by
  have bits : ∀ c, c ∈ [1, 2, 3, 4, 5, 6, 7, 8] ↔ ∃ b, b < 8 ∧ c = b + 1 := by
    intro c
    simp only [List.mem_cons, List.not_mem_nil, or_false]
    constructor
    · intro h; exact ⟨c - 1, by omega, by omega⟩
    · rintro ⟨b, hb, rfl⟩; omega
  simp only [State.maskOutOfRange, List.any_eq_true, bits, Bool.and_eq_true, Bool.not_eq_true', maskHas]
  constructor
  · rintro ⟨_, ⟨b, hb, rfl⟩, set, absent⟩; exact ⟨b, hb, set, absent⟩
  · rintro ⟨b, hb, set, absent⟩; exact ⟨b + 1, ⟨b, hb, rfl⟩, set, absent⟩

theorem checksMatch_setDefrostMask (m : Byte) (s : State) :
    ChecksMatch [(s.maskOutOfRange m, .range)]
      [(∃ b, b < 8 ∧ m.getLsbD b = true ∧ s.compPresent (b + 1) = false, .range)] :=
  ⟨rfl, State.maskOutOfRange_iff, fun _ => trivial⟩

/-- A compartment removed from the mask during an episode ends it (R56). -/
theorem Compartment.applyMask_removed {now : Nat} {k : Compartment} (inMask : k.inMask = true)
    (lasting : k.episode.isSome = true) :
    k.applyMask now false = { k with inMask := false, episode := none, previousEnd := some now } := by
  simp only [Compartment.applyMask, inMask, Bool.not_false, Bool.and_self, if_true, Compartment.endEpisode_eq, lasting]

/-- Otherwise the mask is all that changes (R52). -/
theorem Compartment.applyMask_other {now : Nat} {k : Compartment} {b : Bool}
    (h : k.inMask = false ∨ b = true ∨ k.episode = none) : k.applyMask now b = { k with inMask := b } := by
  unfold Compartment.applyMask
  split
  next removed =>
    obtain ⟨was, isNot⟩ := Bool.and_eq_true_iff.1 removed
    have ended : k.episode = none := by
      rcases h with h | h | h
      · rw [h] at was; cases was
      · rw [h] at isNot; cases isNot
      · exact h
    have stands : k.endEpisode now = k := by rw [Compartment.endEpisode, ended]
    rw [stands]
  next => rfl

/-- Settles O41: one check and the mask put in place on every present compartment. -/
theorem defrostMaskIsSet : Obligations.DefrostMaskIsSet := by
  refine fun m s hs => ⟨?refused, fun good => ?set⟩
  case refused =>
    exact (refusedInOrder_of (i := .setDefrostMask (Frame.exact 1) m) rfl hs rfl (by decide)
      (checksMatch_setDefrostMask m s)).1
  case set =>
    have carried := carried_of_checks (i := .setDefrostMask (Frame.exact 1) m) rfl hs rfl (by decide)
      (checksMatch_setDefrostMask m s) ⟨good, trivial⟩ rfl rfl rfl rfl rfl
    have comp := State.compAt_mapPresentComps s fun c k => k.applyMask s.tb.trip (maskHas m c)
    refine ⟨_, carried, fun c _ _ => ⟨fun present => ⟨fun ⟨inMask, removed, lasting⟩ => ?_, fun other => ?_⟩,
      fun absent => (comp c).trans (if_neg (by simp [absent]))⟩, rfl, rfl, rfl, rfl, rfl, rfl, rfl, rfl, rfl, rfl, rfl⟩
    · refine (comp c).trans ((if_pos present).trans ?_)
      rw [maskHas, removed, Compartment.applyMask_removed inMask lasting]
    · exact (comp c).trans ((if_pos present).trans (Compartment.applyMask_other other))

/-! ### SET_ALERT -/

/-- What SET_ALERT makes of its line (R174). -/
def Line.setAlert (c : Condition) (m : Mode) (level : Bool) (l : Line) : Line :=
  { l with condition := c, mode := m }.refresh level

theorem checksMatch_setAlert (line cond mode : Byte) :
    ChecksMatch [(decide (1 < line.toNat) || decide (7 < cond.toNat) || decide (2 < mode.toNat), .range)]
      [(1 < line.toNat ∨ 7 < cond.toNat ∨ 2 < mode.toNat, .range)] :=
  ⟨rfl, by simp [or_assoc], fun _ => trivial⟩

theorem State.linesCurrent_setAlert {s : State} (current : s.linesCurrent) (line : Nat) (c : Condition) (m : Mode) :
    (s.modifyLine line (Line.setAlert c m (s.level c))).linesCurrent := by
  intro i
  rw [State.line_modifyLine, State.level_modifyLine]
  split
  · rfl
  · exact current i

/-- The state after SET_ALERT: the transaction taken, the line set afresh, the OK held, the lines evaluated. -/
def State.alertSet (line : Nat) (c : Condition) (m : Mode) (s : State) : State :=
  (((s.takeTransaction 5).modifyLine line (Line.setAlert c m (s.level c))).setExecuting (okReply [])).evaluateLines

/-- With the lines up to date the evaluation after the command changes neither line. -/
theorem State.line_alertSet {s : State} (current : s.linesCurrent) (line : Nat) (c : Condition) (m : Mode) (i : Fin 2) :
    (s.alertSet line c m).au.lines[i] =
      if i.val = line then (s.au.lines[i]).setAlert c m (s.level c) else s.au.lines[i] := by
  have evaluated : (s.alertSet line c m).au.lines = (s.modifyLine line (Line.setAlert c m (s.level c))).au.lines :=
    State.evaluateLines_of_linesCurrent
      (s := ((s.takeTransaction 5).modifyLine line (Line.setAlert c m (s.level c))).setExecuting (okReply []))
      (s.linesCurrent_setAlert current line c m)
  rw [evaluated, State.line_modifyLine]

/-- A line set afresh is high in FOLLOW with its condition true and low otherwise (R174). -/
theorem State.alertHigh_of_fresh {s : State} {i : Fin 2} {c : Condition} {m : Mode} {reference : Bool} {pulses : Nat}
    (run : s.tb.power = .run) (fresh : s.au.lines[i] = ⟨c, m, reference, false, none, pulses⟩) :
    s.alertHigh i = (decide (m = .follow) && s.level c) := by
  have present : s.au.lines[i.val]? = some s.au.lines[i] := Vector.getElem?_eq_getElem i.isLt
  simp only [State.alertHigh, present, fresh, State.running_of run, Bool.true_and]
  cases m <;> simp

theorem modeOf_byte {mode : Byte} (h : mode.toNat ≤ 2) :
    modeOf mode.toNat = if mode = 0 then .follow else if mode = 1 then .latch else .pulse := by
  have numbers : mode = 0 ∨ mode = 1 ∨ mode = 2 := by bv_omega
  rcases numbers with rfl | rfl | rfl <;> rfl

/-- Settles O42: one check and one line set afresh; the evaluation that follows finds both references up to date. -/
theorem setAlertSetsTheLineAfresh : Obligations.SetAlertSetsTheLineAfresh := by
  refine fun line cond mode s hs => ⟨?refused, fun hc hm current l hl => ?set⟩
  case refused =>
    exact (refusedInOrder_of (i := .setAlert (Frame.exact 3) line cond mode) rfl hs rfl (by decide)
      (checksMatch_setAlert line cond mode)).1
  case set =>
    intro c md
    have passes := (checksMatch_setAlert line cond mode).passes ⟨by have := l.isLt; omega, trivial⟩
    have answered : Answered (.setAlert (Frame.exact 3) line cond mode) 3 s
        (s.alertSet line.toNat (conditionOf cond.toNat) (modeOf mode.toNat)) (okReply []) :=
      answered_of rfl hs rfl (by decide) (command_carried passes) rfl rfl rfl
    have condition : conditionOf cond.toNat = c := rfl
    rw [condition, modeOf_byte hm] at answered
    have here : (s.alertSet line.toNat c md).au.lines[l] = ⟨c, md, s.level c, false, none, s.au.lines[l].pulses⟩ := by
      rw [State.line_alertSet current, if_pos hl.symm]
      rfl
    refine ⟨s.alertSet line.toNat c md, answered, here, ?_, fun m other => ?_, rfl, rfl, rfl, rfl, rfl, rfl, rfl, rfl⟩
    · exact State.alertHigh_of_fresh hs.1 here
    · rw [State.line_alertSet current, if_neg (by omega)]

/-! ### DEFINE_PROFILE and CLEAR_PROFILE -/

theorem checksMatch_defineProfile (i : Byte) (u l : Word16) (s : State) :
    ChecksMatch
      [(decide (7 < i.toNat) || !limitsValid u.toInt l.toInt, .range),
        (decide (0 < (s.profileAt i.toNat).useCount), .inUse)]
      [(7 < i.toNat ∨
          ¬(-400 ≤ u.toInt ∧ u.toInt ≤ 700 ∧ -400 ≤ l.toInt ∧ l.toInt ≤ 700 ∧ l.toInt < u.toInt), .range),
        (0 < (s.profileAt i.toNat).useCount, .inUse)] :=
  ⟨rfl, by rw [← limitsValid_iff]; simp, fun _ => ⟨rfl, decide_eq_true_iff, fun _ => trivial⟩⟩

theorem checksMatch_clearProfile (i : Byte) (s : State) :
    ChecksMatch [(decide (7 < i.toNat), .range), (decide (0 < (s.profileAt i.toNat).useCount), .inUse)]
      [(7 < i.toNat, .range), (0 < (s.profileAt i.toNat).useCount, .inUse)] :=
  ⟨rfl, decide_eq_true_iff, fun _ => ⟨rfl, decide_eq_true_iff, fun _ => trivial⟩⟩

theorem State.profileAt_modifyProfile_same {s : State} {i : Nat} (hi : i ≤ 7) (f : Profile → Profile) :
    (s.modifyProfile i f).profileAt i = f (s.profileAt i) := by
  rw [State.profileAt_modifyProfile, if_pos ⟨rfl, by omega⟩]

theorem State.profileAt_modifyProfile_other {s : State} {i j : Nat} (other : j ≠ i) (f : Profile → Profile) :
    (s.modifyProfile i f).profileAt j = s.profileAt j := by
  rw [State.profileAt_modifyProfile, if_neg fun here => other here.1]

/-- Settles O44: the checks, and one entry written whole but for its use count, which is 0. -/
theorem profilesAreDefinedAndCleared : Obligations.ProfilesAreDefinedAndCleared := by
  refine ⟨fun i u l bh bl ba s hs => ⟨?defineRefused, fun hi valid unused => ?define⟩,
    fun i s hs => ⟨?clearRefused, fun hi unused => ?clear⟩⟩
  case defineRefused => exact refusedInOrder_of rfl hs rfl (by decide) (checksMatch_defineProfile i u l s)
  case define =>
    have carried := carried_of_checks (i := .defineProfile (Frame.exact 17) i u l bh bl ba) rfl hs rfl (by decide)
      (checksMatch_defineProfile i u l s) ⟨fun bad => bad.elim (by omega) fun out => out valid, by omega, trivial⟩
      rfl rfl rfl rfl rfl
    refine ⟨_, carried, ?_, fun j other => State.profileAt_modifyProfile_other (s := s) other _, rfl, rfl, rfl, rfl, rfl,
      rfl, rfl⟩
    refine (State.profileAt_modifyProfile_same (s := s) hi (Profile.define u.toInt l.toInt bh bl ba)).trans ?_
    rw [Profile.define, unused]
  case clearRefused => exact refusedInOrder_of rfl hs rfl (by decide) (checksMatch_clearProfile i s)
  case clear =>
    have carried := carried_of_checks (i := .clearProfile (Frame.exact 1) i) rfl hs rfl (by decide)
      (checksMatch_clearProfile i s) ⟨by omega, by omega, trivial⟩ rfl rfl rfl rfl rfl
    refine ⟨_, carried, ?_, fun j other => State.profileAt_modifyProfile_other (s := s) other _, rfl, rfl, rfl, rfl, rfl,
      rfl, rfl⟩
    refine (State.profileAt_modifyProfile_same (s := s) hi Profile.clear).trans ?_
    rw [Profile.clear, unused]
    rfl

end Sys2Proof.Machine

/-! The custody commands (O45 to O49). -/

namespace Sys2Proof.Machine

/-! ### The shared checks as propositions -/

theorem State.staleHandle_iff {s : State} {h : Nat} {id : Word32} :
    s.staleHandle h id = true ↔ ∀ r, s.record? h = some r → r.id ≠ id := by
  cases hr : s.record? h <;> simp [State.staleHandle, hr]

theorem State.wrongState_iff {s : State} {h : Byte} {accepts : Record → Bool} :
    s.wrongState h accepts = true ↔ ∀ r, s.record? h.toNat = some r → ¬accepts r = true := by
  cases hr : s.record? h.toNat <;> simp [State.wrongState, hr]

theorem State.doorShut_iff {s : State} {c : Nat} :
    s.doorShut c = true ↔ (s.compAt c).interlock = true ∧ (s.compAt c).doorOpen = false := by
  simp [State.doorShut]

theorem State.compFull_iff {s : State} {c : Nat} :
    s.compFull c = true ↔ (s.compAt c).capacity ≤ (s.membersOf c).length := decide_eq_true_iff

theorem State.stageFull_iff {s : State} : s.stageFull = true ↔ 8 ≤ s.ct.stage.length := decide_eq_true_iff

theorem State.findId?_isSome_iff {s : State} {id : Word32} :
    (s.findId? id).isSome = true ↔ ∃ h ∈ s.ct.index, ∃ r, s.record? h = some r ∧ r.id = id := by
  simp [State.findId?, Option.any_eq_true]

theorem State.lowestFree?_isNone_iff {s : State} :
    s.lowestFree?.isNone = true ↔ ∀ h, h < 48 → s.record? h ≠ none := by
  simp [State.lowestFree?]

/-- Where a slot is FREE and every lower one is not, it is the one a new record takes (R75). -/
theorem State.lowestFree?_eq_some {s : State} {h : Nat} (hh : h < 48) (free : s.record? h = none)
    (lower : ∀ k, k < h → s.record? k ≠ none) : s.lowestFree? = some h := by
  rw [State.lowestFree?, List.find?_range_eq_some]
  refine ⟨by rw [free]; rfl, List.mem_range.2 hh, fun k hk => ?_⟩
  simpa [Option.isSome_iff_ne_none] using lower k hk

/-- RANGE and STALE_HANDLE come first (R76). -/
theorem checksMatch_addressed {s : State} {h : Byte} {id : Word32} {other : Bool} {range : Prop}
    {checks : List (Bool × ResultCode)} {claims : List (Prop × ResultCode)}
    (hrange : (decide (47 < h.toNat) || other) = true ↔ range) (rest : ChecksMatch checks claims) :
    ChecksMatch (s.addressChecks h id other ++ checks)
      ((range, .range) :: (∀ r, s.record? h.toNat = some r → r.id ≠ id, .staleHandle) :: claims) :=
  ⟨rfl, hrange, fun _ => ⟨rfl, State.staleHandle_iff, fun _ => rest⟩⟩

/-! ### The checks of LOAD, SHIFT, STAGE and RESTOW -/

theorem checksMatch_load (id : Word32) (prof comp : Byte) (s : State) :
    ChecksMatch (s.loadChecks id prof comp)
      [(s.tb.interval = none, .notReady),
        (7 < prof.toNat ∨ comp = 0 ∨ 4 < comp.toNat ∨ s.tb.presentCount < comp.toNat, .range),
        ((s.profileAt prof.toNat).defined = false, .noProfile),
        (∃ h ∈ s.ct.index, ∃ r, s.record? h = some r ∧ r.id = id, .duplicate),
        (∀ h, h < 48 → s.record? h ≠ none, .tableFull),
        ((s.compAt comp.toNat).capacity ≤ (s.membersOf comp.toNat).length, .zoneFull),
        ((s.compAt comp.toNat).interlock = true ∧ (s.compAt comp.toNat).doorOpen = false, .doorClosed)] := by
  have absent : (!s.compPresent comp.toNat) = true ↔ comp = 0 ∨ 4 < comp.toNat ∨ s.tb.presentCount < comp.toNat := by
    rw [Bool.not_eq_true', Bool.eq_false_iff, Ne, State.compPresent_iff, ← byte_eq_zero_iff]
    omega
  exact ⟨rfl, Option.isNone_iff_eq_none, fun _ => ⟨rfl, by rw [Bool.or_eq_true, decide_eq_true_iff, absent], fun _ =>
    ⟨rfl, by rw [Bool.not_eq_true'], fun _ => ⟨rfl, State.findId?_isSome_iff, fun _ => ⟨rfl, State.lowestFree?_isNone_iff,
      fun _ => ⟨rfl, State.compFull_iff, fun _ => ⟨rfl, State.doorShut_iff, fun _ => trivial⟩⟩⟩⟩⟩⟩⟩

/-- The record in a slot is in none of the states that a command accepts. -/
def State.notIn (s : State) (h : Byte) (accepts : Record → Bool) : Prop :=
  ∀ r, s.record? h.toNat = some r → ¬accepts r = true

theorem checksMatch_shift (h : Byte) (id : Word32) (e d : Byte) (s : State) :
    ChecksMatch (s.shiftChecks h id e d)
      [(47 < h.toNat ∨ s.compPresent e.toNat = false ∨ s.compPresent d.toNat = false, .range),
        (∀ r, s.record? h.toNat = some r → r.id ≠ id, .staleHandle), (s.notIn h Record.isLoaded, .wrongState),
        (s.placeOf h.toNat ≠ e.toNat, .mismatch),
        ((s.compAt (s.placeOf h.toNat)).interlock = true ∧ (s.compAt (s.placeOf h.toNat)).doorOpen = false, .doorClosed),
        ((s.compAt d.toNat).interlock = true ∧ (s.compAt d.toNat).doorOpen = false, .doorClosed),
        ((s.compAt d.toNat).capacity ≤ (s.membersOf d.toNat).length, .zoneFull),
        (d.toNat = s.placeOf h.toNat, .range)] :=
  checksMatch_addressed (by simp) ⟨rfl, State.wrongState_iff, fun _ => ⟨rfl, bne_iff_ne, fun _ =>
    ⟨rfl, State.doorShut_iff, fun _ => ⟨rfl, State.doorShut_iff, fun _ => ⟨rfl, State.compFull_iff, fun _ =>
      ⟨rfl, beq_iff_eq, fun _ => trivial⟩⟩⟩⟩⟩⟩

theorem checksMatch_stage (h : Byte) (id : Word32) (e : Byte) (s : State) :
    ChecksMatch (s.stageChecks h id e)
      [(47 < h.toNat ∨ s.compPresent e.toNat = false, .range),
        (∀ r, s.record? h.toNat = some r → r.id ≠ id, .staleHandle), (s.notIn h Record.isLoaded, .wrongState),
        (s.placeOf h.toNat ≠ e.toNat, .mismatch), (8 ≤ s.ct.stage.length, .zoneFull),
        ((s.compAt (s.placeOf h.toNat)).interlock = true ∧ (s.compAt (s.placeOf h.toNat)).doorOpen = false,
          .doorClosed)] :=
  checksMatch_addressed (by simp) ⟨rfl, State.wrongState_iff, fun _ => ⟨rfl, bne_iff_ne, fun _ =>
    ⟨rfl, State.stageFull_iff, fun _ => ⟨rfl, State.doorShut_iff, fun _ => trivial⟩⟩⟩⟩

theorem checksMatch_restow (h : Byte) (id : Word32) (d : Byte) (s : State) :
    ChecksMatch (s.restowChecks h id d)
      [(47 < h.toNat ∨ s.compPresent d.toNat = false, .range),
        (∀ r, s.record? h.toNat = some r → r.id ≠ id, .staleHandle), (s.notIn h Record.isStaged, .wrongState),
        ((s.compAt d.toNat).capacity ≤ (s.membersOf d.toNat).length, .zoneFull),
        ((s.compAt d.toNat).interlock = true ∧ (s.compAt d.toNat).doorOpen = false, .doorClosed)] :=
  checksMatch_addressed (by simp) ⟨rfl, State.wrongState_iff, fun _ => ⟨rfl, State.compFull_iff, fun _ =>
    ⟨rfl, State.doorShut_iff, fun _ => trivial⟩⟩⟩

/-- Settles O45: the four lists of checks, condition by condition. -/
theorem custodyRefusalsInOrder : Obligations.CustodyRefusalsInOrder :=
  ⟨fun id prof comp s hs => refusedInOrder_of rfl hs rfl (by decide) (checksMatch_load id prof comp s),
    fun h id e d s hs => ⟨refusedInOrder_of rfl hs rfl (by decide) (checksMatch_shift h id e d s),
      refusedInOrder_of rfl hs rfl (by decide) (checksMatch_stage h id e s),
      refusedInOrder_of rfl hs rfl (by decide) (checksMatch_restow h id d s)⟩⟩

/-! ### LOAD -/

theorem State.membersOf_makeRecord {s : State} {h c d t : Nat} {r : Record} (loaded : r.custody = .loaded d t) :
    (s.makeRecord h r).membersOf c = if c = d ∧ 1 ≤ d ∧ d ≤ 4 then s.membersOf c ++ [h] else s.membersOf c := by
  rw [State.makeRecord, loaded, State.membersOf_joinList]
  rfl

/-- The record a LOAD makes, its figures written out (R89, R126). -/
theorem loadedRecord_eq (id : Word32) (profile : Nat) (comp : Byte) (now : Nat) :
    loadedRecord id profile comp.toNat now =
      ⟨id, .loaded comp.toNat now, profile, .intact, ⟨false, false, false, false, false⟩, 0, 0, 0, 0, 0, 0,
        crcBytes (crcBytes 0xFFFF (bytes32 id)) [1, 0, comp, 0, 0, 0, 0, 0]⟩ := by
  have block : stepBlock .load 0 comp.toNat .intact 0 = [1, 0, comp, 0, 0, 0, 0, 0] := by
    rw [stepBlock_load, BitVec.ofNat_toNat, BitVec.setWidth_eq]
  rw [← block]
  rfl

theorem not_shut {c : Compartment} (open_ : c.interlock = true → c.doorOpen = true) :
    ¬(c.interlock = true ∧ c.doorOpen = false) := by
  rintro ⟨on, shut⟩
  rw [open_ on] at shut
  cases shut

/-- Settles O46: with every check passed the effect is the making of one record, whose handle the exact index takes
between its two halves. -/
theorem loadMakesTheRecord : Obligations.LoadMakesTheRecord := by
  intro id prof comp h s hs indexed fixed hprof present defined fresh hh free lower room open_
  have lowest : s.lowestFree? = some h := State.lowestFree?_eq_some hh free lower
  let r := loadedRecord id prof.toNat comp.toNat s.tb.trip
  have spec := (s.takeTransaction 8).makeRecord_spec hh r (show prof.toNat < 8 by omega)
  have members := fun c => State.membersOf_makeRecord (s := s.takeTransaction 8) (h := h) (c := c) (r := r) rfl
  obtain ⟨m, hm⟩ : ∃ m, m = (s.takeTransaction 8).makeRecord h r := ⟨_, rfl⟩
  obtain ⟨before, after, split, joined, below, above⟩ := indexed.insert (r := r) free fresh
  obtain ⟨low, inside, high⟩ := State.compPresent_iff.1 present
  have effect : (s.takeTransaction 8).loadEffect id prof comp = (m, okReply [byte h]) := by
    rw [State.loadEffect, show (s.takeTransaction 8).lowestFree? = some h from lowest, hm]
    rfl
  rw [← hm] at spec members
  obtain ⟨here, others, used, profiles, index, -, stage, tb, ps, zm, ae, hu, au, li, free', pending⟩ := spec
  have carried := carried_of_checks (i := .load (Frame.exact 6) id prof comp) rfl hs rfl (by decide) (checksMatch_load id prof comp s)
      ⟨fixed, ?range, by simp [defined], ?duplicate, fun full => full h hh free, by omega,
        not_shut open_, trivial⟩
      effect li (congrArg AlertUnit.lines au) free' pending
  case range =>
    rw [← byte_eq_zero_iff]
    omega
  case duplicate =>
    rintro ⟨k, -, q, hq, same⟩
    exact fresh k q hq same
  have notStage : ∀ d n, r.custody = .loaded d n → d ≠ 5 := by
    intro d n loaded
    have : comp.toNat = d := by cases loaded; rfl
    omega
  have place : r.place ≠ 5 := show comp.toNat ≠ 5 by omega
  have attention : m.au.attention = s.au.attention := congrArg AlertUnit.attention au
  refine ⟨_, before, after, carried, ?_, others, used, profiles, split, index.trans joined, below, above,
    ?_, fun c other => ?_, ?_, tb, ps, zm, ae, hu, attention⟩
  · rw [← loadedRecord_eq]
    exact here
  · exact (members _).trans (if_pos ⟨rfl, low, high⟩)
  · exact (members c).trans (if_neg fun at_ => other at_.1)
  · exact (stage notStage).trans (by rw [if_neg place, List.append_nil]; rfl)

/-! ### Moving and closing -/

/-- What SHIFT, STAGE, RESTOW, DELIVER and WRITE_OFF make of the record in a slot, the lists and the other blocks, with
the step of code `code` folded to `place` and the custody `custody` put in place (R85). -/
structure Carries (code : Byte) (place : Nat) (custody : Custody) (h : Nat) (r : Record) (s t : State) : Prop where
  record : t.record? h =
    some { (r.settle (s.readings r) s.tb.trip).1 with
      custody := custody
      fold :=
        crcBytes (r.settle (s.readings r) s.tb.trip).1.fold
          ([code, BitVec.ofNat 8 r.place, BitVec.ofNat 8 place,
              BitVec.ofNat 8 (r.settle (s.readings r) s.tb.trip).1.status.ordinal] ++
            nat32 (r.settle (s.readings r) s.tb.trip).1.custodySeconds) }
  others : OthersStand h s t
  raised : Raised (r.settle (s.readings r) s.tb.trip).2 s t
  index : t.ct.index = s.ct.index
  members : ∀ c, 1 ≤ c → c ≤ 4 →
    t.membersOf c = (s.membersOf c).filter (· != h) ++ (if c = place then [h] else [])
  stage : t.ct.stage = s.ct.stage.filter (· != h) ++ (if place = 5 then [h] else [])
  blocks : t.tb = s.tb ∧ t.ps = s.ps ∧ t.zm = s.zm ∧ t.pt = s.pt ∧ t.ae = s.ae ∧ t.hu = s.hu

/-- A command carried out by the steps of R85, with the record's last charge after its settle. -/
theorem carried_carryOut {i : Instr} {code : Byte} {n h place : Nat} {step : StepCode} {after : Nat → Custody}
    {checks : State → List (Bool × ResultCode)} {effect : State → State × Reply} {reply : State → Reply} {s : State}
    {r : Record} {claims : List (Prop × ResultCode)}
    (hx : exec i s = .next (s.receiveCommand code (Frame.exact n) (command checks effect))) (hs : s.ready)
    (hn : payloadLength? code = some n) (h40 : n ≤ 40) (hc : ChecksMatch (checks (s.takeTransaction (2 + n))) claims)
    (pass : NoneFails claims)
    (he : effect (s.takeTransaction (2 + n)) =
      ((s.takeTransaction (2 + n)).carryOut h step after, reply ((s.takeTransaction (2 + n)).carryOut h step after)))
    (hr : s.record? h = some r) (active : r.isLoaded = true ∨ r.isStaged = true)
    (hplace : ∀ t, (after t).place = place) (notStage : ∀ t d n, after t = .loaded d n → d ≠ 5) :
    ∃ t charged, Carried i n s t (reply ((s.takeTransaction (2 + n)).carryOut h step after)) ∧
      (∀ k, ((s.takeTransaction (2 + n)).carryOut h step after).record? k = t.record? k) ∧
      (r.settle (s.readings r) s.tb.trip).1.lastCharge? = some charged ∧
      Carries (byte step.number) place (after charged) h r s t := by
  have spec := (s.takeTransaction (2 + n)).carryOut_spec step after hr
  obtain ⟨m, hm⟩ : ∃ m, m = (s.takeTransaction (2 + n)).carryOut h step after := ⟨_, rfl⟩
  rw [← hm] at spec he ⊢
  obtain ⟨record, others, members, stage, raised, index, tb, ps, zm, pt, ae, hu, lines, li, free, pending⟩ := spec
  obtain ⟨-, -, -, -, -, -, keeps⟩ := Record.settle_stands (s.readings r) s.tb.trip r
  obtain ⟨since, charged⟩ := Record.lastCharge?_of_active active
  obtain ⟨now, settled⟩ := Option.isSome_iff_exists.1 (keeps.trans (by rw [charged]; rfl))
  have custody : (r.settle ((s.takeTransaction (2 + n)).readings r) (s.takeTransaction (2 + n)).now).1.lastCharge?.getD
      (s.takeTransaction (2 + n)).now = now := by
    show (r.settle (s.readings r) s.tb.trip).1.lastCharge?.getD _ = now
    rw [settled]
    rfl
  rw [custody] at record members stage
  rw [hplace] at record members stage
  exact ⟨_, now, carried_of_checks hx hs hn h40 hc pass he li lines free pending, fun _ => rfl, settled,
    ⟨record, others, raised, index, members, stage (notStage now), tb, ps, zm, pt, ae, hu⟩⟩

theorem State.placeOf_eq {s : State} {h : Nat} {r : Record} (hr : s.record? h = some r) : s.placeOf h = r.place := by
  rw [State.placeOf, hr]

/-- Settles O47: each move is its checks and the steps of R85, from a place that its state gives the record. -/
theorem movesSettleFoldAndMove : Obligations.MovesSettleFoldAndMove := by
  intro h id d r s hs hr hid settled moved open_ room
  have within : h.toNat < 48 := State.lt_of_record? hr
  have fresh : ¬∀ q, s.record? h.toNat = some q → q.id ≠ id := fun stale => stale r hr hid
  have place := State.placeOf_eq hr
  refine ⟨fun c t0 loaded hc hd apart openC openD roomD => ?shift, fun c t0 loaded hc openC stageRoom => ?stage,
    fun t0 staged hd openD roomD => ?restow⟩
  case shift =>
    obtain ⟨-, -, c4⟩ := State.compPresent_iff.1 hc
    obtain ⟨-, -, d4⟩ := State.compPresent_iff.1 hd
    have isLoaded : r.isLoaded = true := r.isLoaded_iff.2 ⟨c, t0, loaded⟩
    have hplace : s.placeOf h.toNat = c := place.trans (by rw [Record.place, loaded]; rfl)
    have expected : (BitVec.ofNat 8 c).toNat = c := Nat.mod_eq_of_lt (by omega)
    obtain ⟨t, charged, carried, -, hcharged, carries⟩ := carried_carryOut (i := .shift (Frame.exact 7) h id (BitVec.ofNat 8 c) d)
      (reply := fun _ => okReply []) (after := Custody.loaded d.toNat) (place := d.toNat) rfl hs rfl (by decide)
      (checksMatch_shift h id (BitVec.ofNat 8 c) d s)
      ⟨by rw [expected, hc, hd]; simp; omega, fresh, fun no => no r hr isLoaded, by rw [hplace, expected]; simp,
        by rw [hplace]; exact not_shut openC, not_shut openD, Nat.not_le.2 roomD, by rw [hplace]; exact apart, trivial⟩
      rfl hr (.inl isLoaded) (fun _ => rfl) (by rintro t e n ⟨⟩; omega)
    exact ⟨t, charged, carried, hcharged, carries.record, carries.others, carries.raised, carries.index, carries.members,
      carries.stage, carries.blocks⟩
  case stage =>
    obtain ⟨-, -, c4⟩ := State.compPresent_iff.1 hc
    have isLoaded : r.isLoaded = true := r.isLoaded_iff.2 ⟨c, t0, loaded⟩
    have hplace : s.placeOf h.toNat = c := place.trans (by rw [Record.place, loaded]; rfl)
    have expected : (BitVec.ofNat 8 c).toNat = c := Nat.mod_eq_of_lt (by omega)
    obtain ⟨t, charged, carried, -, hcharged, carries⟩ := carried_carryOut (i := .stage (Frame.exact 6) h id (BitVec.ofNat 8 c))
      (reply := fun _ => okReply []) (after := Custody.staged) (place := 5) rfl hs rfl (by decide)
      (checksMatch_stage h id (BitVec.ofNat 8 c) s)
      ⟨by rw [expected, hc]; simp; omega, fresh, fun no => no r hr isLoaded, by rw [hplace, expected]; simp,
        Nat.not_le.2 stageRoom, by rw [hplace]; exact not_shut openC, trivial⟩
      rfl hr (.inl isLoaded) (fun _ => rfl) (by rintro t e n ⟨⟩)
    exact ⟨t, charged, carried, hcharged, carries.record, carries.others, carries.raised, carries.index, carries.members,
      carries.stage, carries.blocks⟩
  case restow =>
    obtain ⟨-, -, d4⟩ := State.compPresent_iff.1 hd
    have isStaged : r.isStaged = true := r.isStaged_iff.2 ⟨t0, staged⟩
    obtain ⟨t, charged, carried, -, hcharged, carries⟩ := carried_carryOut (i := .restow (Frame.exact 6) h id d)
      (reply := fun _ => okReply []) (after := Custody.loaded d.toNat) (place := d.toNat) rfl hs rfl (by decide)
      (checksMatch_restow h id d s)
      ⟨by rw [hd]; simp; omega, fresh, fun no => no r hr isStaged, Nat.not_le.2 roomD, not_shut openD, trivial⟩
      rfl hr (.inr isStaged) (fun _ => rfl) (by rintro t e n ⟨⟩; omega)
    exact ⟨t, charged, carried, hcharged, carries.record, carries.others, carries.raised, carries.index, carries.members,
      carries.stage, carries.blocks⟩

theorem checksMatch_onRecord (h : Byte) (id : Word32) (accepts : Record → Bool) (s : State) :
    ChecksMatch (s.addressChecks h id false ++ [(s.wrongState h accepts, .wrongState)])
      [(47 < h.toNat, .range), (∀ r, s.record? h.toNat = some r → r.id ≠ id, .staleHandle),
        (s.notIn h accepts, .wrongState)] :=
  checksMatch_addressed (by simp) ⟨rfl, State.wrongState_iff, fun _ => trivial⟩

/-- A command that closes a record carries out the steps of R85 to place 6 and answers the closed record's view. -/
theorem carried_close {i : Instr} {code : Byte} {step : StepCode} {kind : CloseKind} {accepts : Record → Bool} {h : Byte}
    {id : Word32} {s : State} {r : Record}
    (hx : exec i s = .next (s.receiveCommand code (Frame.exact 5) (command
      (fun s => s.addressChecks h id false ++ [(s.wrongState h accepts, .wrongState)])
      (State.closeRecord h.toNat step kind))))
    (hs : s.ready) (hn : payloadLength? code = some 5) (hr : s.record? h.toNat = some r) (hid : r.id = id)
    (accepted : accepts r = true) (active : r.isLoaded = true ∨ r.isStaged = true) :
    ∃ t r', Carried i 5 s t ⟨.ok, recordView h.toNat r'⟩ ∧ t.record? h.toNat = some r' ∧
      Carries (byte step.number) 6 (.closed kind) h.toNat r s t := by
  obtain ⟨t, charged, carried, same, -, carries⟩ := carried_carryOut
    (reply := fun t => okReply (t.viewOf h.toNat)) (after := fun _ => .closed kind) (place := 6) hx hs hn (by decide)
    (checksMatch_onRecord h id accepts s)
    ⟨by have := State.lt_of_record? hr; omega, fun stale => stale r hr hid, fun no => no r hr accepted, trivial⟩
    rfl hr active (fun _ => rfl) (by rintro t e n ⟨⟩)
  refine ⟨t, _, ?_, carries.record, carries⟩
  rwa [State.viewOf, same, carries.record] at carried

/-- Settles O48: both commands close a record by the steps of R85. -/
theorem closingSettlesAndProves : Obligations.ClosingSettlesAndProves := by
  refine fun h id s hs => ⟨?deliverRefused, ?writeOffRefused, fun r hr hid => ⟨fun staged => ?deliver, fun active => ?writeOff⟩⟩
  case deliverRefused => exact refusedInOrder_of rfl hs rfl (by decide) (checksMatch_onRecord h id Record.isStaged s)
  case writeOffRefused =>
    have checks := checksMatch_onRecord h id (fun r => r.isLoaded || r.isStaged) s
    simp only [State.notIn, Bool.or_eq_true] at checks
    exact refusedInOrder_of (i := .writeOff (Frame.exact 5) h id) rfl hs rfl (by decide) checks
  case deliver =>
    obtain ⟨t, r', carried, record, carries⟩ := carried_close (i := .deliver (Frame.exact 5) h id) rfl hs rfl hr hid staged
      (.inr staged)
    refine ⟨t, r', carried, record, Option.some.inj (record.symm.trans carries.record), carries.others, carries.raised,
      carries.index, fun c h1 h4 => ?_, ?_, carries.blocks⟩
    · rw [carries.members c h1 h4, if_neg (by omega), List.append_nil]
    · rw [carries.stage, if_neg (by decide), List.append_nil]
  case writeOff =>
    obtain ⟨t, r', carried, record, carries⟩ := carried_close (i := .writeOff (Frame.exact 5) h id) rfl hs rfl hr hid
      (accepts := fun r => r.isLoaded || r.isStaged) (by simpa using active) active
    refine ⟨t, r', carried, record, Option.some.inj (record.symm.trans carries.record), carries.others, carries.raised,
      carries.index, fun c h1 h4 => ?_, ?_, carries.blocks⟩
    · rw [carries.members c h1 h4, if_neg (by omega), List.append_nil]
    · rw [carries.stage, if_neg (by decide), List.append_nil]

/-! ### RELEASE -/

/-- The record of a slot given up: its index entry, its profile's use count, its slot (R99). -/
def State.released (h : Nat) (r : Record) (s : State) : State :=
  ((s.removeIndex h).modifyProfile r.profile fun p => { p with useCount := p.useCount - 1 }).setRecord h none

theorem State.releaseEffect_eq {s : State} {h : Nat} {r : Record} (hr : s.record? h = some r) :
    s.releaseEffect h = (s.released h r, okReply (recordView h r)) := by
  simp only [State.releaseEffect, hr, State.released]

theorem State.released_spec {s : State} {h : Nat} {r : Record} (hh : h < 48) (hp : r.profile ≤ 7) :
    (s.released h r).record? h = none ∧ OthersStand h s (s.released h r) ∧
      (s.released h r).profileAt r.profile =
        { s.profileAt r.profile with useCount := (s.profileAt r.profile).useCount - 1 } ∧
      (∀ i, i ≠ r.profile → (s.released h r).profileAt i = s.profileAt i) ∧
      (s.released h r).ct.index = s.ct.index.filter (· != h) ∧ (s.released h r).ct.members = s.ct.members ∧
      (s.released h r).ct.stage = s.ct.stage ∧ (s.released h r).tb = s.tb ∧ (s.released h r).ps = s.ps ∧
      (s.released h r).zm = s.zm ∧ (s.released h r).ae = s.ae ∧ (s.released h r).hu = s.hu ∧
      (s.released h r).au = s.au ∧ (s.released h r).li = s.li ∧ (s.released h r).freeCount = s.freeCount ∧
      (s.released h r).pending = s.pending := by
  refine ⟨?_, fun k other => ?_, ?_, fun i other => ?_, rfl, rfl, rfl, rfl, rfl, rfl, rfl, rfl, rfl, rfl, rfl, rfl⟩
  · exact (State.record?_setRecord _ h h none).trans (if_pos ⟨rfl, hh⟩)
  · exact (State.record?_setRecord _ h k none).trans (if_neg fun here => other here.1)
  · exact State.profileAt_modifyProfile_same (s := s) hp _
  · exact State.profileAt_modifyProfile_other (s := s) other _

/-- Settles O49: the checks, and the slot, its index entry and its use count given up together. -/
theorem releaseFreesTheSlot : Obligations.ReleaseFreesTheSlot := by
  refine fun h id s hs => ⟨?refused, fun r hr hid closed hp => ?release⟩
  case refused =>
    have checks := checksMatch_onRecord h id Record.isClosed s
    simp only [State.notIn, Bool.not_eq_true] at checks
    exact refusedInOrder_of rfl hs rfl (by decide) checks
  case release =>
    have within := State.lt_of_record? hr
    obtain ⟨m, hm⟩ : ∃ m, m = (s.takeTransaction 7).released h.toNat r := ⟨_, rfl⟩
    have spec := State.released_spec (s := s.takeTransaction 7) (r := r) within hp
    rw [← hm] at spec
    obtain ⟨free, others, lowered, profiles, index, members, stage, tb, ps, zm, ae, hu, au, li, count, pending⟩ := spec
    have carried := carried_of_checks (i := .release (Frame.exact 5) h id) rfl hs rfl (by decide)
      (checksMatch_onRecord h id Record.isClosed s)
      ⟨by omega, fun stale => stale r hr hid, fun no => no r hr closed, trivial⟩
      (hm ▸ State.releaseEffect_eq (s := s.takeTransaction 7) hr) li (congrArg AlertUnit.lines au) count pending
    have attention : m.au.attention = s.au.attention := congrArg AlertUnit.attention au
    exact ⟨_, carried, free, others, index, lowered, profiles, members, stage, tb, ps, zm, ae, hu, attention⟩

end Sys2Proof.Machine

/-! Handing a record over (O50 to O52). -/

namespace Sys2Proof.Machine

/-! ### The image -/

theorem length_imageBody (p : Profile) (r : Record) : (imageBody p r).length = 46 := by
  simp [imageBody, bytes32, int16, nat32, nat16, bytes16]

theorem length_recordImage (p : Profile) (r : Record) : (recordImage p r).length = 48 := by
  rw [recordImage, List.length_append, length_imageBody]
  rfl

theorem imageCheck_imageBody (p : Profile) (r : Record) : imageCheck (imageBody p r) = crcBytes 0xFFFF (imageBody p r) := by
  rw [imageCheck, List.take_of_length_le (length_imageBody p r).le]
  rfl

theorem recordImage_take (p : Profile) (r : Record) : (recordImage p r).take 46 = imageBody p r :=
  List.take_left' (length_imageBody p r)

/-- The last two bytes of an image are the CRC over the others (R131). -/
theorem recordImage_drop (p : Profile) (r : Record) :
    (recordImage p r).drop 46 = bytes16 (crcBytes 0xFFFF ((recordImage p r).take 46)) := by
  rw [recordImage_take, ← imageCheck_imageBody]
  exact List.drop_left' (length_imageBody p r)

/-- The marks byte of an image, its dynamic marks clear (R137, R186). -/
theorem statusByte_forImage (status : Status) (m : Marks) :
    statusByte status m.forImage = BitVec.ofNat 8 (status.ordinal + 4 * m.timing.toNat + 8 * m.adopted.toNat) := by
  rw [← byte_toNat (statusByte status m.forImage), statusByte_toNat]
  rfl

/-! ### HAND_OFF -/

/-- What HAND_OFF does to a record in a slot: it is settled and frozen, and its image check is the answer (R135). -/
theorem State.handOffEffect_eq {s : State} {h : Nat} {r : Record} (hr : s.record? h = some r) :
    s.handOffEffect h =
      ((s.settle h s.now).setRecord h (some (s.frozenRecord r)),
        okReply (bytes16 (crcBytes 0xFFFF ((recordImage (s.profileAt r.profile) (s.frozenRecord r)).take 46)))) := by
  have settled : (s.settle h s.now).record? h = some (r.settle (s.readings r) s.now).1 := by
    rw [State.record?_settle, if_pos rfl, hr]
    rfl
  obtain ⟨-, profile, -⟩ := Record.settle_stands (s.readings r) s.now r
  have named : (s.frozenRecord r).profile = r.profile := profile
  rw [← recordImage_drop, ← named]
  simp only [State.handOffEffect, settled, State.frozenRecord, State.imageOf]

/-- Settles O50: the settle, then the frozen record in its slot, the lists standing. -/
theorem handOffFreezesTheRecord : Obligations.HandOffFreezesTheRecord := by
  refine fun h id s hs => ⟨?refused, fun r hr hid staged => ?handOff⟩
  case refused =>
    have checks := checksMatch_onRecord h id Record.isStaged s
    simp only [State.notIn, Bool.not_eq_true] at checks
    exact refusedInOrder_of rfl hs rfl (by decide) checks
  case handOff =>
    intro settled
    have slot := State.lt_of_record? hr
    obtain ⟨m, hm⟩ : ∃ m, m = (s.takeTransaction 7).settle h.toNat s.tb.trip := ⟨_, rfl⟩
    obtain ⟨tb, ps, zm, pt, index, members, stage, ae, hu, lines, li, free, pending⟩ :=
      (s.takeTransaction 7).settle_stands h.toNat s.tb.trip
    have raised := State.mem_settle (s := s.takeTransaction 7) (t := s.tb.trip) hr
    have others := (s.takeTransaction 7).record?_settle h.toNat s.tb.trip
    have effect : (s.takeTransaction 7).handOffEffect h.toNat = (m.setRecord h.toNat (some (s.frozenRecord r)),
        okReply (bytes16 (crcBytes 0xFFFF ((recordImage (s.profileAt r.profile) (s.frozenRecord r)).take 46)))) :=
      hm ▸ State.handOffEffect_eq (s := s.takeTransaction 7) hr
    rw [← hm] at tb ps zm pt index members stage ae hu lines li free pending raised others
    have carried := carried_of_checks (i := .handOff (Frame.exact 5) h id) rfl hs rfl (by decide)
      (checksMatch_onRecord h id Record.isStaged s)
      ⟨by omega, fun stale => stale r hr hid, fun no => no r hr staged, trivial⟩ effect li lines free pending
    refine ⟨_, s.frozenRecord r, carried, ?_, rfl, fun k other => ?_, raised, index, members, stage, tb, ps, zm, pt, ae,
      hu⟩
    · exact (State.record?_setRecord m h.toNat h.toNat _).trans (if_pos ⟨rfl, slot⟩)
    · exact (State.record?_setRecord m h.toNat k _).trans
        ((if_neg fun here => other here.1).trans ((others k).trans (if_neg other)))

/-! ### EXPORT_PART -/

theorem checksMatch_export (h : Byte) (id : Word32) (k : Byte) (s : State) :
    ChecksMatch
      (s.addressChecks h id (decide (2 < k.toNat)) ++ [(s.wrongState h Record.isHandover, .wrongState)])
      [(47 < h.toNat ∨ 2 < k.toNat, .range), (∀ r, s.record? h.toNat = some r → r.id ≠ id, .staleHandle),
        (s.notIn h Record.isHandover, .wrongState)] :=
  checksMatch_addressed (by simp) ⟨rfl, State.wrongState_iff, fun _ => trivial⟩

/-- Settles O51: the image is the body of R186 with its check, whose fields the model lays out in the same order. -/
theorem exportReturnsThePartsOfTheImage : Obligations.ExportReturnsThePartsOfTheImage := by
  refine fun h id k s hs => ⟨?refused, fun r hr hid frozen hk => ?exported⟩
  case refused =>
    have checks := checksMatch_export h id k s
    simp only [State.notIn, Bool.not_eq_true] at checks
    exact refusedInOrder_of rfl hs rfl (by decide) checks
  case exported =>
    intro p marks body image
    have sameBody : body = imageBody p r := by
      rw [imageBody, statusByte_forImage]
      rfl
    have sameImage : image = recordImage p r := by
      rw [recordImage, imageCheck_imageBody, ← sameBody]
    have slot := State.lt_of_record? hr
    have effect : (s.takeTransaction 8).exportPayload h.toNat k.toNat = (image.drop (16 * k.toNat)).take 16 := by
      rw [State.exportPayload, show (s.takeTransaction 8).record? h.toNat = some r from hr, sameImage]
      rfl
    have carried := carried_of_checks (i := .exportPart (Frame.exact 6) h id k) rfl hs rfl (by decide)
      (checksMatch_export h id k s)
      ⟨by omega, fun stale => stale r hr hid, fun no => no r hr frozen, trivial⟩ rfl rfl rfl rfl rfl
    exact ⟨_, carried_payload effect.symm carried, by rw [sameImage]; exact length_recordImage p r,
      ⟨rfl, rfl, rfl, rfl, rfl, rfl, rfl⟩, rfl⟩

/-! ### CONFIRM and RECALL -/

theorem checksMatch_confirm (h : Byte) (id : Word32) (s : State) :
    ChecksMatch (s.confirmChecks h id)
      [(47 < h.toNat, .range), (∀ r, s.record? h.toNat = some r → r.id ≠ id, .staleHandle),
        (∃ r, s.record? h.toNat = some r ∧ r.isStaged = true ∧ r.marks.lapsed = true, .late),
        (s.notIn h Record.isHandover, .wrongState)] :=
  checksMatch_addressed (by simp) ⟨rfl, by simp [Option.any_eq_true], fun _ =>
    ⟨rfl, State.wrongState_iff, fun _ => trivial⟩⟩

/-- What CONFIRM does to a record in a slot: closed with its step folded, off its list, its view the answer (R139). -/
theorem State.confirmEffect_eq {s : State} {h : Nat} {r : Record} (hr : s.record? h = some r) :
    s.confirmEffect h =
      ((s.setRecord h (some r.confirmed)).leaveLists h, okReply (recordView h r.confirmed)) := by
  have slot := State.lt_of_record? hr
  have here : ((s.setRecord h (some r.confirmed)).leaveLists h).record? h = some r.confirmed :=
    (State.record?_setRecord s h h _).trans (if_pos ⟨rfl, slot⟩)
  have view : ((s.setRecord h (some r.confirmed)).leaveLists h).viewOf h = recordView h r.confirmed := by
    rw [State.viewOf, here]
  rw [← view]
  simp only [State.confirmEffect, hr, Record.confirmed]

/-- What closing a record by CONFIRM leaves standing. -/
theorem State.confirmed_stands (s : State) (h : Nat) (r : Option Record) :
    ((s.setRecord h r).leaveLists h).ct.index = s.ct.index ∧
      ((s.setRecord h r).leaveLists h).ct.stage = s.ct.stage.filter (· != h) ∧
      ((s.setRecord h r).leaveLists h).au = s.au ∧ ((s.setRecord h r).leaveLists h).tb = s.tb ∧
      ((s.setRecord h r).leaveLists h).ps = s.ps ∧ ((s.setRecord h r).leaveLists h).zm = s.zm ∧
      ((s.setRecord h r).leaveLists h).pt = s.pt ∧ ((s.setRecord h r).leaveLists h).ae = s.ae ∧
      ((s.setRecord h r).leaveLists h).hu = s.hu ∧ ((s.setRecord h r).leaveLists h).li = s.li ∧
      ((s.setRecord h r).leaveLists h).freeCount = s.freeCount ∧
      ((s.setRecord h r).leaveLists h).pending = s.pending := by
  simp

/-- Settles O52: CONFIRM closes the record in place of a settle; RECALL is the frozen-interval charge with its step. -/
theorem confirmClosesAndRecallReturns : Obligations.ConfirmClosesAndRecallReturns := by
  refine fun h id s hs => ⟨?confirmRefused, ?recallRefused, fun r frozenAt deadline hr hid frozen => ⟨?confirm, ?recalled⟩⟩
  case confirmRefused =>
    have checks := checksMatch_confirm h id s
    simp only [State.notIn, Bool.not_eq_true] at checks
    exact refusedInOrder_of rfl hs rfl (by decide) checks
  case recallRefused =>
    have checks := checksMatch_onRecord h id Record.isHandover s
    simp only [State.notIn, Bool.not_eq_true] at checks
    exact refusedInOrder_of (i := .recallRecord (Frame.exact 5) h id) rfl hs rfl (by decide) checks
  case confirm =>
    have slot := State.lt_of_record? hr
    have isHandover : r.isHandover = true := r.isHandover_iff.2 ⟨frozenAt, deadline, frozen⟩
    have inTime : ¬∃ q, s.record? h.toNat = some q ∧ q.isStaged = true ∧ q.marks.lapsed = true := by
      rintro ⟨q, hq, staged, -⟩
      obtain rfl : r = q := Option.some.inj (hr.symm.trans hq)
      simp [Record.isStaged, frozen] at staged
    obtain ⟨m, hm⟩ : ∃ m, m = ((s.takeTransaction 7).setRecord h.toNat (some r.confirmed)).leaveLists h.toNat := ⟨_, rfl⟩
    have here : m.record? h.toNat = some r.confirmed := by
      rw [hm]
      exact (State.record?_setRecord _ h.toNat h.toNat _).trans (if_pos ⟨rfl, slot⟩)
    have others : OthersStand h.toNat s m := by
      intro k other
      rw [hm]
      exact (State.record?_setRecord _ h.toNat k _).trans (if_neg fun at_ => other at_.1)
    have members : ∀ c, m.membersOf c = (s.membersOf c).filter (· != h.toNat) := by
      rw [hm]
      exact State.membersOf_leaveLists _ h.toNat
    have stands := State.confirmed_stands (s.takeTransaction 7) h.toNat (some r.confirmed)
    rw [← hm] at stands
    obtain ⟨index, stage, au, tb, ps, zm, pt, ae, hu, li, free, pending⟩ := stands
    have carried := carried_of_checks (i := .confirm (Frame.exact 5) h id) rfl hs rfl (by decide) (checksMatch_confirm h id s)
      ⟨by omega, fun stale => stale r hr hid, inTime, fun no => no r hr isHandover, trivial⟩
      (hm ▸ State.confirmEffect_eq (s := s.takeTransaction 7) hr) li (congrArg AlertUnit.lines au) free pending
    have attention : m.au.attention = s.au.attention := congrArg AlertUnit.attention au
    exact ⟨_, r.confirmed, carried, here, rfl, others, index, stage, fun c _ _ => members c, attention, tb, ps, zm, pt, ae,
      hu⟩
  case recalled =>
    intro f timing charged evaluated
    have slot := State.lt_of_record? hr
    have isHandover : r.isHandover = true := r.isHandover_iff.2 ⟨frozenAt, deadline, frozen⟩
    obtain ⟨m, hm⟩ : ∃ m, m = (s.takeTransaction 7).thaw h.toNat s.tb.trip .recalled := ⟨_, rfl⟩
    have thawed := State.thaw_spec (s := s.takeTransaction 7) s.tb.trip .recalled hr frozen
    rw [← hm] at thawed
    obtain ⟨record, others, raised, index, members, stage, tb, ps, zm, pt, ae, hu, lines, li, free, pending⟩ := thawed
    have carried := carried_of_checks (i := .recallRecord (Frame.exact 5) h id) rfl hs rfl (by decide)
      (checksMatch_onRecord h id Record.isHandover s)
      ⟨by omega, fun stale => stale r hr hid, fun no => no r hr isHandover, trivial⟩
      (congrArg (fun m => (m, okReply [])) hm.symm) li lines free pending
    exact ⟨_, carried, record, others, raised, index, members, stage, tb, ps, zm, pt, ae, hu⟩

end Sys2Proof.Machine

/-! Adoption (O53, O55, O56). -/

namespace Sys2Proof.Machine

/-! ### ADOPT_PART -/

theorem checksMatch_adoptPart (k : Byte) (s : State) :
    ChecksMatch [(decide (2 < k.toNat), .range), (k.toNat != 0 && k.toNat != s.hu.parts.length, .sequence)]
      [(2 < k.toNat, .range), (k ≠ 0 ∧ k.toNat ≠ s.hu.parts.length, .sequence)] :=
  ⟨rfl, decide_eq_true_iff, fun _ => ⟨rfl, by simp [byte_eq_zero_iff], fun _ => trivial⟩⟩

/-- Settles O53: part 0 restarts the buffer, the next part in turn extends it. -/
theorem adoptPartGathersInSequence : Obligations.AdoptPartGathersInSequence := by
  refine fun k bytes s hs => ⟨refusedInOrder_of rfl hs rfl (by decide) (checksMatch_adoptPart k s), fun hk next => ?_⟩
  have stored : storePart k.toNat bytes s.hu.parts = if k = 0 then [bytes] else s.hu.parts ++ [bytes] := by
    simp only [storePart, byte_eq_zero_iff]
  have count : (storePart k.toNat bytes s.hu.parts).length = k.toNat + 1 := by
    rw [stored]
    split
    next first => subst first; rfl
    next later =>
      rw [List.length_append, ← next.resolve_left later]
      rfl
  have carried := carried_of_checks (i := .adoptPart (Frame.exact 17) k bytes) rfl hs rfl (by decide)
    (checksMatch_adoptPart k s) ⟨by omega, fun ⟨later, skips⟩ => next.elim later skips, trivial⟩ rfl rfl rfl rfl rfl
  refine ⟨_, carried_payload ?_ carried, stored, count, rfl, rfl, rfl, rfl, rfl, rfl, rfl, rfl⟩
  show _ = [byte (storePart k.toNat bytes s.hu.parts).length]
  rw [count]
  rfl

/-! ### The buffered image -/

theorem getLsbD_byte (x : Byte) : x.getLsbD 0 = decide (x.toNat % 2 = 1) ∧ x.getLsbD 1 = decide (x.toNat / 2 % 2 = 1) := by
  constructor
  · rw [BitVec.getLsbD, Nat.testBit_zero]
  · rw [BitVec.getLsbD, Nat.testBit_succ, Nat.testBit_zero]

/-- The status of an image is the number in the two low bits of its marks byte (R148, R186). -/
theorem imageStatus_eq (b : List Byte) :
    imageStatus b =
      if (byteAt b 40).toNat % 4 = 0 then .intact
      else if (byteAt b 40).toNat % 4 = 1 then .atRisk
      else if (byteAt b 40).toNat % 4 = 2 then .unproven
      else .broken (word32At b 36).toNat := by
  obtain ⟨low, high⟩ := getLsbD_byte (byteAt b 40)
  have remainder : (byteAt b 40).toNat % 4 = (byteAt b 40).toNat % 2 + 2 * ((byteAt b 40).toNat / 2 % 2) := by omega
  rw [imageStatus, low, high, remainder]
  rcases Nat.mod_two_eq_zero_or_one (byteAt b 40).toNat with h0 | h0 <;>
    rcases Nat.mod_two_eq_zero_or_one ((byteAt b 40).toNat / 2) with h1 | h1 <;> simp only [h0, h1] <;> rfl

theorem imageStatus_ordinal (b : List Byte) : (imageStatus b).ordinal = (byteAt b 40).toNat % 4 := by
  rw [imageStatus_eq]
  split_ifs <;> simp only [Status.ordinal] <;> omega

theorem checkMatches_iff (b : List Byte) :
    checkMatches b = true ↔ crcBytes 0xFFFF (b.take 46) = word16At b 46 := beq_iff_eq

theorem imageFirstBreak_absent_iff (b : List Byte) : imageFirstBreak b = maxU32 ↔ word32At b 36 = 0xFFFFFFFF := by
  rw [imageFirstBreak, ← BitVec.toNat_inj]
  rfl

/-- The first-break field of an image as its status asks for it (R148). -/
def firstBreakAgrees (b : List Byte) : Status → Bool
  | .intact => decide (imageFirstBreak b = maxU32)
  | .atRisk => decide (imageFirstBreak b = maxU32)
  | .unproven => decide (imageFirstBreak b = maxU32)
  | .broken first => decide (first ≤ imageCustody b)

theorem imageConsistent_eq (b : List Byte) :
    imageConsistent b =
      (limitsValid (imageUpper b) (imageLower b) && decide (imageBlind b ≤ imageCustody b) &&
        firstBreakAgrees b (imageStatus b)) := by
  unfold imageConsistent
  cases imageStatus b <;> rfl

theorem firstBreakAgrees_iff (b : List Byte) :
    firstBreakAgrees b (imageStatus b) = true ↔
      ((byteAt b 40).toNat % 4 ≠ 3 → word32At b 36 = 0xFFFFFFFF) ∧
        ((byteAt b 40).toNat % 4 = 3 → (word32At b 36).toNat ≤ (word32At b 32).toNat) := by
  rw [imageStatus_eq]
  split_ifs with h0 h1 h2
  · simp [firstBreakAgrees, imageFirstBreak_absent_iff, h0]
  · simp [firstBreakAgrees, imageFirstBreak_absent_iff, h1]
  · simp [firstBreakAgrees, imageFirstBreak_absent_iff, h2]
  · have broken : (byteAt b 40).toNat % 4 = 3 := by omega
    exact ⟨fun h => ⟨fun no => absurd broken no, fun _ => of_decide_eq_true h⟩, fun h => decide_eq_true (h.2 broken)⟩

/-- The three conditions of R148. -/
theorem imageConsistent_iff (b : List Byte) :
    imageConsistent b = true ↔
      -400 ≤ (word16At b 4).toInt ∧ (word16At b 4).toInt ≤ 700 ∧ -400 ≤ (word16At b 6).toInt ∧
        (word16At b 6).toInt ≤ 700 ∧ (word16At b 6).toInt < (word16At b 4).toInt ∧
        (word32At b 28).toNat ≤ (word32At b 32).toNat ∧
        ((byteAt b 40).toNat % 4 ≠ 3 → word32At b 36 = 0xFFFFFFFF) ∧
        ((byteAt b 40).toNat % 4 = 3 → (word32At b 36).toNat ≤ (word32At b 32).toNat) := by
  rw [imageConsistent_eq, Bool.and_eq_true, Bool.and_eq_true, firstBreakAgrees_iff, limitsValid_iff, decide_eq_true_iff]
  simp only [imageUpper, imageLower, imageBlind, imageCustody, and_assoc]

/-- A profile that matches the image in all five values (R68). -/
def Profile.Matches (b : List Byte) (p : Profile) : Prop :=
  p.defined = true ∧ p.upper = (word16At b 4).toInt ∧ p.lower = (word16At b 6).toInt ∧
    p.upperBudget = (word32At b 8).toNat ∧ p.lowerBudget = (word32At b 12).toNat ∧
    p.blindAllowance = (word32At b 16).toNat

theorem profileMatches_iff (b : List Byte) (p : Profile) : profileMatches b p = true ↔ p.Matches b := by
  simp only [profileMatches, Bool.and_eq_true, beq_iff_eq, imageUpper, imageLower, imageUpperBudget, imageLowerBudget,
    imageAllowance, Profile.Matches, and_assoc]

theorem State.adoptionMatch?_isNone_iff {s : State} {b : List Byte} :
    (s.adoptionMatch? b).isNone = true ↔ ∀ p, p < 8 → ¬(s.profileAt p).Matches b := by
  simp [State.adoptionMatch?, ← profileMatches_iff]

theorem State.adoptionMatch?_eq_some {s : State} {b : List Byte} {p : Nat} (hp : p < 8)
    (matched : (s.profileAt p).Matches b) (lower : ∀ i, i < p → ¬(s.profileAt i).Matches b) :
    s.adoptionMatch? b = some p := by
  rw [State.adoptionMatch?, List.find?_range_eq_some]
  refine ⟨(profileMatches_iff b _).2 matched, List.mem_range.2 hp, fun i hi => ?_⟩
  rw [Bool.not_eq_true', Bool.eq_false_iff, Ne, profileMatches_iff]
  exact lower i hi

/-! ### The checks of ADOPT_COMMIT -/

theorem exec_adoptCommit (fr : Frame) (s : State) :
    exec (.adoptCommit fr) s = .next (s.receiveCommand 0x35 fr State.adoptCommit) := rfl

/-- A refusal that keeps the buffer changes no block (R147). -/
theorem adoptCommit_refuses {s : State} (hs : s.ready) {c : ResultCode} (first : firstRefusal s.adoptChecks = some c)
    (keeps : dropsBuffer c = false) : Refuses (.adoptCommit (Frame.exact 0)) 0 s c := by
  have body : (s.takeTransaction 2).adoptCommit = (s.takeTransaction 2, refusal c) := by
    rw [State.adoptCommit, show firstRefusal (s.takeTransaction 2).adoptChecks = some c from first]
    simp only [keeps]
    rfl
  exact ⟨_, carried_of (exec_adoptCommit _ s) hs rfl (by decide) body rfl rfl rfl rfl, ⟨rfl, rfl, rfl, rfl, rfl, rfl, rfl⟩,
    rfl⟩

/-- A refusal that drops the buffer changes nothing else (R147). -/
theorem adoptCommit_drops {s : State} (hs : s.ready) {c : ResultCode} (first : firstRefusal s.adoptChecks = some c)
    (drops : dropsBuffer c = true) :
    ∃ t, Carried (.adoptCommit (Frame.exact 0)) 0 s t ⟨c, []⟩ ∧ t.hu = { s.hu with parts := [] } ∧ t.tb = s.tb ∧
      t.ps = s.ps ∧ t.zm = s.zm ∧ t.pt = s.pt ∧ t.ct = s.ct ∧ t.ae = s.ae ∧ t.au.attention = s.au.attention := by
  have body : (s.takeTransaction 2).adoptCommit = ((s.takeTransaction 2).clearBuffer, refusal c) := by
    rw [State.adoptCommit, show firstRefusal (s.takeTransaction 2).adoptChecks = some c from first]
    simp only [drops]
    rfl
  exact ⟨_, carried_of (exec_adoptCommit _ s) hs rfl (by decide) body rfl rfl rfl rfl, rfl, rfl, rfl, rfl, rfl, rfl, rfl,
    rfl⟩

/-- The checks of ADOPT_COMMIT from DUPLICATE on, once the image is consistent (R147). -/
def State.adoptTableChecks (s : State) : List (Bool × ResultCode) := s.adoptChecks.drop 4

theorem checksMatch_adoptTable (s : State) :
    ChecksMatch s.adoptTableChecks
      [(∃ h ∈ s.ct.index, ∃ r, s.record? h = some r ∧ r.id = word32At (bufferBytes s.hu.parts) 0, .duplicate),
        (∀ p, p < 8 → ¬(s.profileAt p).Matches (bufferBytes s.hu.parts), .noProfile),
        (∀ h, h < 48 → s.record? h ≠ none, .tableFull), (8 ≤ s.ct.stage.length, .zoneFull)] :=
  ⟨rfl, State.findId?_isSome_iff, fun _ => ⟨rfl, State.adoptionMatch?_isNone_iff, fun _ =>
    ⟨rfl, State.lowestFree?_isNone_iff, fun _ => ⟨rfl, State.stageFull_iff, fun _ => trivial⟩⟩⟩⟩

theorem dropsBuffer_of_table {s : State} {c : ResultCode} (first : firstRefusal s.adoptTableChecks = some c) :
    dropsBuffer c = false := by
  simp only [State.adoptTableChecks, State.adoptChecks, List.drop_succ_cons, List.drop_zero, firstRefusal] at first
  split_ifs at first <;> (cases first; rfl)

/-- Past the first four checks the others decide. -/
theorem firstRefusal_adoptChecks {s : State} (fixed : s.tb.interval ≠ none) (held : s.hu.parts.length = 3)
    (checked : checkMatches (bufferBytes s.hu.parts) = true) (consistent : imageConsistent (bufferBytes s.hu.parts) = true) :
    firstRefusal s.adoptChecks = firstRefusal s.adoptTableChecks := by
  simp [State.adoptTableChecks, State.adoptChecks, firstRefusal, fixed, held, checked, consistent]

/-- Settles O55: each check after those before it, the buffer dropped by BAD_CHECK and BAD_IMAGE alone. -/
theorem adoptCommitRefusalsInOrder : Obligations.AdoptCommitRefusalsInOrder := by
  intro s hs i b checkOk consistent dropped
  refine ⟨fun unfixed => adoptCommit_refuses hs (by simp [State.adoptChecks, firstRefusal, unfixed]) rfl,
    fun fixed short => adoptCommit_refuses hs (by simp [State.adoptChecks, firstRefusal, fixed, short]) rfl,
    fun fixed held => ⟨fun bad => ?_, fun good => ⟨fun bad => ?_, fun sound => ?_⟩⟩⟩
  · have fails : checkMatches (bufferBytes s.hu.parts) = false := by
      rw [Bool.eq_false_iff, Ne, checkMatches_iff]
      exact bad
    exact adoptCommit_drops hs (by simp [State.adoptChecks, firstRefusal, fixed, held, fails]) rfl
  · have checked : checkMatches (bufferBytes s.hu.parts) = true := (checkMatches_iff _).2 good
    have fails : imageConsistent (bufferBytes s.hu.parts) = false := by
      rw [Bool.eq_false_iff, Ne, imageConsistent_iff]
      exact bad
    exact adoptCommit_drops hs (by simp [State.adoptChecks, firstRefusal, fixed, held, checked, fails]) rfl
  · refine refusedInOrder_of_refuses (fun c first => ?_) (checksMatch_adoptTable s)
    exact adoptCommit_refuses hs ((firstRefusal_adoptChecks fixed held ((checkMatches_iff _).2 good)
      ((imageConsistent_iff _).2 sound)).trans first) (dropsBuffer_of_table first)

/-! ### An ADOPT_COMMIT that passes -/

/-- The next lower byte of a concatenation is the next byte of it without the last one. -/
theorem extractLsb'_append_byte {n start : Nat} (x : BitVec n) (d : Byte) :
    (x ++ d).extractLsb' (start + 8) 8 = x.extractLsb' start 8 :=
  BitVec.extractLsb'_append_eq_of_le (Nat.le_add_left 8 start)

/-- The bytes of a field read back are the bytes it was read from. -/
theorem bytes32_word32At (b : List Byte) (i : Nat) :
    bytes32 (word32At b i) = [byteAt b i, byteAt b (i + 1), byteAt b (i + 2), byteAt b (i + 3)] := by
  have first : (word32At b i).extractLsb' 24 8 = byteAt b i := calc
    _ = (byteAt b i ++ byteAt b (i + 1) ++ byteAt b (i + 2)).extractLsb' 16 8 := extractLsb'_append_byte _ _
    _ = (byteAt b i ++ byteAt b (i + 1)).extractLsb' 8 8 := extractLsb'_append_byte _ _
    _ = byteAt b i := BitVec.extractLsb'_append_eq_left
  have second : (word32At b i).extractLsb' 16 8 = byteAt b (i + 1) := calc
    _ = (byteAt b i ++ byteAt b (i + 1) ++ byteAt b (i + 2)).extractLsb' 8 8 := extractLsb'_append_byte _ _
    _ = (byteAt b i ++ byteAt b (i + 1)).extractLsb' 0 8 := extractLsb'_append_byte _ _
    _ = byteAt b (i + 1) := BitVec.extractLsb'_append_eq_right
  have third : (word32At b i).extractLsb' 8 8 = byteAt b (i + 2) := calc
    _ = (byteAt b i ++ byteAt b (i + 1) ++ byteAt b (i + 2)).extractLsb' 0 8 := extractLsb'_append_byte _ _
    _ = byteAt b (i + 2) := BitVec.extractLsb'_append_eq_right
  have fourth : (word32At b i).extractLsb' 0 8 = byteAt b (i + 3) := BitVec.extractLsb'_append_eq_right
  rw [bytes32, first, second, third, fourth]

/-- The step block of an ADOPT, its custody seconds as the image holds them (R127, R130). -/
theorem stepBlock_adopt (b : List Byte) :
    stepBlock .adopt 0 5 (imageStatus b) (imageCustody b) =
      [11, 0, 5, BitVec.ofNat 8 ((byteAt b 40).toNat % 4)] ++
        [byteAt b 32, byteAt b 33, byteAt b 34, byteAt b 35] := by
  have seconds : nat32 (imageCustody b) = bytes32 (word32At b 32) := by
    rw [nat32, imageCustody, BitVec.ofNat_toNat, BitVec.setWidth_eq]
  rw [stepBlock, imageStatus_ordinal, seconds, bytes32_word32At]
  rfl

/-- The record an ADOPT_COMMIT makes, its figures written out from the image (R130, R149). -/
theorem adoptedRecord_eq (b : List Byte) (profile now : Nat) :
    adoptedRecord b profile now =
      ⟨word32At b 0, .staged now, profile, imageStatus b, ⟨(byteAt b 40).getLsbD 2, true, false, false, false⟩,
        (word32At b 20).toNat, (word32At b 24).toNat, (word32At b 28).toNat, (word32At b 32).toNat,
        (word16At b 42).toNat, (byteAt b 41).toNat,
        crcBytes (word16At b 44)
          ([11, 0, 5, BitVec.ofNat 8 ((byteAt b 40).toNat % 4)] ++
            [byteAt b 32, byteAt b 33, byteAt b 34, byteAt b 35])⟩ := by
  rw [← stepBlock_adopt]
  rfl

theorem State.members_makeRecord_staged (s : State) (h : Nat) {r : Record} {t : Nat} (staged : r.custody = .staged t) :
    (s.makeRecord h r).ct.members = s.ct.members := by
  rw [State.makeRecord, staged]
  rfl

/-- With every check passed the commit makes the record and clears the buffer (R149). -/
theorem State.adoptCommit_of_passes {s : State} {h p : Nat} (fixed : s.tb.interval ≠ none)
    (held : s.hu.parts.length = 3) (checked : checkMatches (bufferBytes s.hu.parts) = true)
    (consistent : imageConsistent (bufferBytes s.hu.parts) = true) (fresh : s.findId? (imageId (bufferBytes s.hu.parts)) = none)
    (matched : s.adoptionMatch? (bufferBytes s.hu.parts) = some p) (lowest : s.lowestFree? = some h)
    (room : s.ct.stage.length < 8) :
    s.adoptCommit =
      ((s.makeRecord h (adoptedRecord (bufferBytes s.hu.parts) p s.now)).clearBuffer, okReply [byte h]) := by
  have passes : firstRefusal s.adoptChecks = none := by
    rw [firstRefusal_adoptChecks fixed held checked consistent]
    simp [State.adoptTableChecks, State.adoptChecks, firstRefusal, fresh, matched, lowest, State.stageFull]
    omega
  simp only [State.adoptCommit, passes, State.adoptEffect, matched, lowest]

/-- Settles O56: the checks pass as the hypotheses say, and the effect is the making of one record. -/
theorem adoptCommitMakesTheRecord : Obligations.AdoptCommitMakesTheRecord := by
  intro h p s hs indexed fixed held b matching checkOk uLow uHigh lLow lHigh ordered blind unbroken broken fresh hp
    matched lowerProfiles hh free lowerSlots room statusBits status
  let r := adoptedRecord b p s.tb.trip
  have body := State.adoptCommit_of_passes (s := s.takeTransaction 2) fixed held ((checkMatches_iff b).2 checkOk)
    ((imageConsistent_iff b).2 ⟨uLow, uHigh, lLow, lHigh, ordered, blind, unbroken, broken⟩)
    (indexed.findId?_eq_none.2 fresh) (State.adoptionMatch?_eq_some (s := s) hp matched lowerProfiles)
    (State.lowestFree?_eq_some (s := s) hh free lowerSlots) room
  have spec := (s.takeTransaction 2).makeRecord_spec hh r hp
  have members := (s.takeTransaction 2).members_makeRecord_staged h (r := r) (t := s.tb.trip) rfl
  obtain ⟨before, after, split, joined, below, above⟩ := indexed.insert (r := r) free fresh
  obtain ⟨m, hm⟩ : ∃ m, m = (s.takeTransaction 2).makeRecord h r := ⟨_, rfl⟩
  have made : (s.takeTransaction 2).adoptCommit = (m.clearBuffer, okReply [byte h]) := hm ▸ body
  rw [← hm] at spec members
  obtain ⟨here, others, used, profiles, index, -, stage, tb, ps, zm, ae, hu, au, li, free', pending⟩ := spec
  have carried := carried_of (exec_adoptCommit _ s) hs rfl (by decide) made li (congrArg AlertUnit.lines au) free' pending
  have record : m.record? h = some _ := here.trans (congrArg some (adoptedRecord_eq b p s.tb.trip))
  rw [imageStatus_eq] at record
  have staged : r.place = 5 := rfl
  have joins : m.ct.stage = s.ct.stage ++ [h] := (stage (by rintro d n ⟨⟩)).trans (by rw [if_pos staged]; rfl)
  have cleared : m.clearBuffer.hu = { s.hu with parts := [] } := by rw [State.clearBuffer_hu, hu]; rfl
  have attention : m.au.attention = s.au.attention := congrArg AlertUnit.attention au
  exact ⟨_, before, after, carried, record, others, used, profiles, split, index.trans joined, below, above, joins, members,
    cleared, tb, ps, zm, ae, attention⟩

end Sys2Proof.Machine

/-! The settle written out (O60). -/

namespace Sys2Proof.Machine

/-! ### The charge of an interval -/

/-- A sum of 32 bits as R110 caps it. -/
theorem satAdd32_eq_cap (a b : Nat) : satAdd32 a b = if 4294967295 < a + b then 4294967295 else a + b := by
  simp only [satAdd32, satAdd, maxU32]
  split <;> omega

theorem timingEstimated_iff {degraded : Bool} {last : Option Nat} {since : Nat} :
    timingEstimated degraded last since = true ↔ degraded = true ∨ ∃ d, last = some d ∧ since ≤ d := by
  simp [timingEstimated, Option.any_eq_true]

/-- An excess of 0 or below adds nothing (R108). -/
theorem excess_charge (e : Int) (delta : Nat) : e.toNat * delta = if 0 < e then e.toNat * delta else 0 := by
  split
  next => rfl
  next low => rw [Int.toNat_of_nonpos (by omega), Nat.zero_mul]

/-- The number of the candidate status (R113). -/
theorem candidate_ordinal (p : Profile) (r : Record) :
    (candidate p r).ordinal =
      if p.upperBudget < r.upperExposure ∨ p.lowerBudget < r.lowerExposure then 3
      else if p.blindAllowance < r.blindSeconds then 2
      else if 0 < r.upperExposure ∨ 0 < r.lowerExposure ∨ 0 < r.blindSeconds then 1
      else 0 := by
  unfold candidate
  split_ifs <;> rfl

theorem Record.evaluate_ordinal (p : Profile) (r : Record) :
    (r.evaluate p).1.status.ordinal = max r.status.ordinal (candidate p r).ordinal := by
  rw [Record.evaluate_status]
  split <;> omega

theorem Record.evaluate_of_le {p : Profile} {r : Record} (h : (candidate p r).ordinal ≤ r.status.ordinal) :
    r.evaluate p = (r, none) :=
  if_neg (Nat.not_lt.2 h)

/-- The figures that an evaluation leaves standing. -/
theorem Record.evaluate_figures (p : Profile) (r : Record) :
    (r.evaluate p).1.blindSeconds = r.blindSeconds ∧ (r.evaluate p).1.upperExposure = r.upperExposure ∧
      (r.evaluate p).1.lowerExposure = r.lowerExposure ∧ (r.evaluate p).1.peakExcess = r.peakExcess ∧
      (r.evaluate p).1.lastCharge? = r.lastCharge? := by
  rw [Record.evaluate_stands]
  exact ⟨rfl, rfl, rfl, rfl, rfl⟩

/-- The effects of a rise, by the number of the status risen to (R114). -/
theorem Record.evaluate_of_lt {p : Profile} {r : Record} (h : r.status.ordinal < (candidate p r).ordinal) :
    ((candidate p r).ordinal = 1 → (r.evaluate p).1.fold = r.fold ∧ (r.evaluate p).2 = none) ∧
      ((candidate p r).ordinal = 2 →
        (r.evaluate p).1.fold = crcBytes r.fold (stepBlock .unproven r.place r.place .unproven r.custodySeconds) ∧
          (r.evaluate p).2 = some .unproven) ∧
      ((candidate p r).ordinal = 3 →
        (r.evaluate p).1.status = .broken r.custodySeconds ∧
          (r.evaluate p).1.fold =
            crcBytes r.fold (stepBlock .brk r.place r.place (.broken r.custodySeconds) r.custodySeconds) ∧
          (r.evaluate p).2 = some .recordBreak) := by
  have risen : r.evaluate p = r.rise (candidate p r) := if_pos h
  rw [risen]
  cases hc : candidate p r with
  | intact => rw [hc] at h; exact absurd h (Nat.not_lt_zero _)
  | atRisk => exact ⟨fun _ => ⟨rfl, rfl⟩, (by intro no; cases no), (by intro no; cases no)⟩
  | unproven => exact ⟨(by intro no; cases no), fun _ => ⟨rfl, rfl⟩, (by intro no; cases no)⟩
  | broken b =>
    obtain rfl := candidate_broken hc
    exact ⟨(by intro no; cases no), (by intro no; cases no), fun _ => ⟨rfl, rfl, rfl⟩⟩

/-- What a charge leaves standing, and the timing mark it tests (R103). -/
theorem Record.charge_stands (g : Readings) (since delta t : Nat) (r : Record) :
    (r.charge g since delta t).id = r.id ∧ (r.charge g since delta t).profile = r.profile ∧
      (r.charge g since delta t).handOffs = r.handOffs ∧ (r.charge g since delta t).status = r.status ∧
      (r.charge g since delta t).fold = r.fold ∧ (r.charge g since delta t).marks.adopted = r.marks.adopted ∧
      (r.charge g since delta t).marks.lapsed = r.marks.lapsed ∧
      (r.charge g since delta t).marks.timing =
        (r.marks.timing || timingEstimated g.degraded g.lastDegraded since) := by
  unfold Record.charge chargeBlind chargeSensed
  split <;> exact ⟨rfl, rfl, rfl, rfl, rfl, rfl, rfl, rfl⟩

/-- A blind charge (R106). -/
theorem Record.charge_blind {g : Readings} (blind : g.blind = true) (since delta t : Nat) (r : Record) :
    (r.charge g since delta t).blindSeconds = satAdd32 r.blindSeconds delta ∧
      (r.charge g since delta t).upperExposure = r.upperExposure ∧
      (r.charge g since delta t).lowerExposure = r.lowerExposure ∧
      (r.charge g since delta t).peakExcess = r.peakExcess ∧
      (r.charge g since delta t).marks.aboveNow = false ∧ (r.charge g since delta t).marks.belowNow = false := by
  simp only [Record.charge, blind, if_true, chargeBlind, and_self]

/-- A sensed charge (R107 to R109). -/
theorem Record.charge_sensed {g : Readings} (sensed : g.blind = false) (since delta t : Nat) (r : Record) :
    (r.charge g since delta t).blindSeconds = r.blindSeconds ∧
      (r.charge g since delta t).upperExposure = satAdd32 r.upperExposure ((upperExcess g).toNat * delta) ∧
      (r.charge g since delta t).lowerExposure = satAdd32 r.lowerExposure ((lowerExcess g).toNat * delta) ∧
      (r.charge g since delta t).peakExcess = max r.peakExcess (max (upperExcess g).toNat (lowerExcess g).toNat) ∧
      (r.charge g since delta t).marks.aboveNow = decide (0 < upperExcess g) ∧
      (r.charge g since delta t).marks.belowNow = decide (0 < lowerExcess g) := by
  simp only [Record.charge, sensed, Bool.false_eq_true, if_false, chargeSensed, and_self]

/-- A settle after the last charge charges the whole interval and evaluates the status (R103). -/
theorem Record.settle_late {g : Readings} {t since : Nat} {r : Record} (charged : r.lastCharge? = some since)
    (late : since < t) : r.settle g t = (r.charge g since (t - since) t).evaluate g.profile := by
  simp [Record.settle, charged, Nat.not_le.2 late]

theorem Record.lastCharge?_charge {g : Readings} {t since : Nat} {r : Record} (charged : r.lastCharge? = some since)
    (delta : Nat) : (r.charge g since delta t).lastCharge? = some t := by
  unfold Record.lastCharge? at charged ⊢
  rw [Record.charge_custody]
  cases hc : r.custody <;> simp_all [Custody.chargedAt]

theorem Record.place_charge (g : Readings) (since delta t : Nat) (r : Record) :
    (r.charge g since delta t).place = r.place := by
  rw [Record.place, Record.charge_custody, Record.place]
  cases r.custody <;> rfl

/-! ### What a settle reads -/

theorem State.readings_loaded {s : State} {r : Record} {c t : Nat} (loaded : r.custody = .loaded c t) :
    s.readings r =
      ⟨(s.zoneAt c).sensing == .blind, (s.zoneAt c).warm, (s.zoneAt c).cold, (s.compAt c).raiseInForce,
        s.profileAt r.profile, s.tb.degraded, s.tb.lastDegraded⟩ := by
  simp only [State.readings, Record.place, Custody.place, Record.isLoaded, loaded, if_true]

theorem State.readings_staged {s : State} {r : Record} {t : Nat} (staged : r.custody = .staged t) :
    s.readings r =
      ⟨(s.zoneAt 5).sensing == .blind, (s.zoneAt 5).warm, (s.zoneAt 5).cold, 0, s.profileAt r.profile, s.tb.degraded,
        s.tb.lastDegraded⟩ := by
  simp only [State.readings, Record.place, Custody.place, Record.isLoaded, staged, Bool.false_eq_true, if_false]

/-- Settles O60: a settle is a charge and an evaluation, and the evaluation leaves all but status and fold standing. -/
theorem settleChargesTheInterval : Obligations.SettleChargesTheInterval := by
  refine ⟨fun g t since r charged => ⟨r.settle_idle charged, fun late => ?settled⟩,
    fun r s => ⟨fun c t loaded => ?loaded, fun t staged => ?staged⟩⟩
  case loaded =>
    rw [State.readings_loaded loaded, Compartment.raiseInForce]
    rcases (s.compAt c).episode with _ | ⟨start, _ | a⟩ <;> rfl
  case staged => exact State.readings_staged staged
  case settled =>
    intro r' delta eHi eLo cap broken number
    have settled : r.settle g t = (r.charge g since delta t).evaluate g.profile := r.settle_late charged late
    obtain ⟨id, profile, handOffs, place, isLoaded, isStaged, -⟩ := Record.settle_stands g t r
    obtain ⟨-, -, -, status, fold, adopted, lapsed, timing⟩ := r.charge_stands g since delta t
    obtain ⟨blind, upper, lower, peak, last⟩ := (r.charge g since delta t).evaluate_figures g.profile
    have marks := (r.charge g since delta t).evaluate_marks g.profile
    have seconds := (r.charge g since delta t).evaluate_custodySeconds g.profile
    rw [← settled] at blind upper lower peak last marks seconds
    change r'.blindSeconds = _ at blind
    change r'.upperExposure = _ at upper
    change r'.lowerExposure = _ at lower
    change r'.peakExcess = _ at peak
    change r'.marks = _ at marks
    change r'.custodySeconds = _ at seconds
    have numbered : number = (candidate g.profile (r.charge g since delta t)).ordinal := by
      rw [candidate_ordinal, ← upper, ← lower, ← blind]
    refine ⟨id, profile, handOffs, place, isLoaded, isStaged, last.trans (Record.lastCharge?_charge charged delta), ?seconds,
      fun isBlind => ?blind, fun sensed => ?sensed, by rw [marks, adopted], by rw [marks, lapsed], ?timing, ?ordinal,
      fun low => ?stays, fun high => ?rises⟩
    case seconds => rw [seconds, Record.charge_custodySeconds, satAdd32_eq_cap]
    case blind =>
      obtain ⟨b, u, l, p, above, below⟩ := r.charge_blind isBlind since delta t
      rw [blind, upper, lower, peak, marks, b, u, l, p, above, below, satAdd32_eq_cap]
      exact ⟨rfl, rfl, rfl, rfl, rfl, rfl⟩
    case sensed =>
      obtain ⟨b, u, l, p, above, below⟩ := r.charge_sensed sensed since delta t
      rw [blind, upper, lower, peak, marks, b, u, l, p, above, below, satAdd32_eq_cap, satAdd32_eq_cap,
        excess_charge (upperExcess g), excess_charge (lowerExcess g)]
      refine ⟨rfl, rfl, rfl, ?_, decide_eq_true_iff, decide_eq_true_iff⟩
      show ((max r.peakExcess (max eHi.toNat eLo.toNat) : Nat) : Int) = _
      omega
    case timing => rw [marks, timing, Bool.or_eq_true, timingEstimated_iff]
    case ordinal =>
      show (r.settle g t).1.status.ordinal = _
      rw [settled, Record.evaluate_ordinal, status, numbered]
    case stays =>
      rw [numbered, ← status] at low
      have idle := Record.evaluate_of_le low
      rw [← settled] at idle
      show (r.settle g t).1.status = _ ∧ (r.settle g t).1.fold = _ ∧ (r.settle g t).2 = _
      rw [idle]
      exact ⟨status, fold, rfl⟩
    case rises =>
      rw [numbered, ← status] at high
      have risen := Record.evaluate_of_lt high
      rw [← settled, ← numbered, fold, Record.place_charge, ← seconds] at risen
      exact risen

end Sys2Proof.Machine

/-! The queue, the reset state, the conditions and the pins (O1, O3, O31). -/

namespace Sys2Proof.Machine

/-- Settles O1: `step` reads the front of the queue. -/
theorem stepRunsTheFrontOfTheQueue : Obligations.StepRunsTheFrontOfTheQueue :=
  ⟨fun _ _ _ => rfl, fun s empty => by rw [step, empty]⟩

/-! ### The reset state -/

theorem not_record_reset {h : Nat} {r : Record} : State.reset.record? h ≠ some r := by
  rw [State.record?_reset]
  exact fun h => nomatch h

theorem reset_listed : State.reset.listed :=
  ⟨by decide, fun c _ _ => ⟨by rw [membersOf_reset]; exact List.nodup_nil, fun h => by
      rw [membersOf_reset]
      exact ⟨fun mem => absurd mem List.not_mem_nil, fun ⟨_, _, hr, _⟩ => absurd hr not_record_reset⟩⟩,
    List.nodup_nil, fun h => ⟨fun mem => absurd mem List.not_mem_nil, fun ⟨_, hr, _⟩ => absurd hr not_record_reset⟩,
    fun _ _ _ _ hr => absurd hr not_record_reset⟩

theorem reset_withinCapacity : State.reset.withinCapacity :=
  ⟨fun c _ _ => by rw [membersOf_reset]; exact Nat.zero_le _, Nat.zero_le _⟩

theorem naming_reset (i : Nat) : State.reset.naming i = 0 := by
  rw [State.naming, List.countP_eq_zero]
  intro x mem
  have free : x = none := by
    rw [Vector.mem_toList_iff] at mem
    exact (Vector.mem_replicate.1 mem).2
  rw [free]
  exact Bool.false_ne_true

theorem reset_useCounted : State.reset.useCounted :=
  ⟨fun i _ => by
    rw [profileAt_reset, naming_reset]
    exact ⟨rfl, fun used => absurd used (Nat.lt_irrefl 0)⟩, fun _ _ hr => absurd hr not_record_reset⟩

theorem reset_recordsLawful : State.reset.recordsLawful := fun _ _ hr => absurd hr not_record_reset

theorem reset_profilesLawful : State.reset.profilesLawful := fun i _ => by
  rw [profileAt_reset]
  exact ⟨fun defined => Bool.noConfusion defined, fun _ => ⟨rfl, rfl, rfl, rfl, rfl⟩⟩

theorem reset_chargedByNow : State.reset.chargedByNow :=
  ⟨fun _ _ _ hr _ => absurd hr not_record_reset, fun _ flight => nomatch flight⟩

theorem line_reset (i : Fin 2) : State.reset.au.lines[i] = Line.initial 0 := by
  simp [State.reset]

/-- With an empty table no record is at risk, so both lines' condition is false. -/
theorem reset_linesCurrent : State.reset.linesCurrent := by
  intro i
  rw [line_reset]
  decide

theorem reset_pulsesNumbered : State.reset.pulsesNumbered := by
  intro i n running
  rw [line_reset] at running
  nomatch running

theorem reset_backupQuiet : State.reset.backupQuiet := fun backup => Power.noConfusion backup

/-- Settles O3: with no record, no member and no use, the invariants hold of the reset state one by one. -/
theorem resetMeetsTheInvariants : Obligations.ResetMeetsTheInvariants :=
  ⟨reset_indexed, reset_listed, reset_withinCapacity, reset_useCounted, reset_recordsLawful, reset_profilesLawful,
    reset_measured, reset_linesCurrent, reset_pulsesNumbered, reset_backupQuiet, reset_chargedByNow⟩

/-! ### Conditions -/

/-- Some record meets a test exactly if some slot holds one that does. -/
theorem State.any_slots_iff {s : State} {f : Record → Bool} :
    (s.ct.slots.toList.any fun x => x.any f) = true ↔ ∃ h r, s.record? h = some r ∧ f r = true := by
  rw [List.any_eq_true]
  constructor
  · rintro ⟨x, mem, hx⟩
    obtain ⟨h, hh, rfl⟩ := Vector.mem_iff_getElem.1 (Vector.mem_toList_iff.1 mem)
    obtain ⟨r, hr, hf⟩ := (Option.any_eq_true _ _).1 hx
    exact ⟨h, r, by simp [State.record?, hh, hr], hf⟩
  · rintro ⟨h, r, hr, hf⟩
    have hh := State.lt_of_record? hr
    have slot : s.ct.slots[h] = some r := by simpa [State.record?, hh] using hr
    exact ⟨s.ct.slots[h], Vector.mem_toList_iff.2 (Vector.getElem_mem hh), by rw [slot]; exact hf⟩

theorem Record.atRiskAboard_iff {r : Record} :
    r.atRiskAboard = true ↔ (∀ k, r.custody ≠ .closed k) ∧ r.status ≠ .intact := by
  have open_ : (!r.isClosed) = true ↔ ∀ k, r.custody ≠ .closed k := by
    rw [Bool.not_eq_true', Bool.eq_false_iff, Ne, Record.isClosed_iff, not_exists]
  have risen : 1 ≤ r.status.ordinal ↔ r.status ≠ .intact := by
    cases r.status <;> simp [Status.ordinal]
  rw [Record.atRiskAboard, Bool.and_eq_true, decide_eq_true_iff, open_, risen]

theorem State.level_blindZone_iff {s : State} :
    s.level .blindZone = true ↔
      ∃ z, 1 ≤ z ∧ z ≤ 5 ∧ (s.zoneAt z).sensing = .blind ∧
        ((z = 5 ∧ s.ct.stage ≠ []) ∨ (z ≠ 5 ∧ s.membersOf z ≠ [])) := by
  have numbers : ∀ z, z ∈ [1, 2, 3, 4, 5] ↔ 1 ≤ z ∧ z ≤ 5 := by
    intro z; simp only [List.mem_cons, List.not_mem_nil, or_false]; omega
  have members : ∀ z, (!(s.zoneMembers z).isEmpty) = true ↔
      (z = 5 ∧ s.ct.stage ≠ []) ∨ (z ≠ 5 ∧ s.membersOf z ≠ []) := by
    intro z
    rw [State.zoneMembers, Bool.not_eq_true', List.isEmpty_eq_false_iff]
    split
    next five => simp [five]
    next other => simp [other]
  simp only [State.level, List.any_eq_true, numbers, Bool.and_eq_true, beq_iff_eq, members, and_assoc]

theorem State.level_doorDwell_iff {s : State} :
    s.level .doorDwell = true ↔ ∃ c, s.compPresent c = true ∧ (s.compAt c).dwellFlag = true := by
  simp only [State.level, List.any_eq_true, Bool.and_eq_true]
  constructor
  · rintro ⟨c, -, dwells⟩; exact ⟨c, dwells⟩
  · rintro ⟨c, present, dwells⟩
    have := State.compPresent_iff.1 present
    exact ⟨c, by simp only [List.mem_cons, List.not_mem_nil, or_false]; omega, present, dwells⟩

theorem State.level_probeFault_iff {s : State} :
    s.level .probeFault = true ↔ ∃ p, p < 8 ∧ (s.probeAt p).state = .faulted := by
  simp only [State.level, List.any_eq_true, State.mem_probes, beq_iff_eq]
  constructor
  · rintro ⟨_, ⟨p, hp, rfl⟩, faulted⟩; exact ⟨p, hp, faulted⟩
  · rintro ⟨p, hp, faulted⟩; exact ⟨_, ⟨p, hp, rfl⟩, faulted⟩

/-! ### Pins -/

theorem State.alertHigh_of_followMode {s : State} {i : Fin 2} (following : s.au.lines[i].mode = .follow) :
    s.alertHigh i = (s.running && s.level s.au.lines[i].condition) := by
  have present : s.au.lines[i.val]? = some s.au.lines[i] := Vector.getElem?_eq_getElem i.isLt
  simp only [State.alertHigh, present, following]

theorem State.running_eq_false {s : State} (h : s.tb.power ≠ .run) : s.running = false := by simp [State.running, h]

/-- Settles O31: each condition's reading as a proposition, and each pin from the state of its line. -/
theorem conditionsReadTheStateAndPinsFollow : Obligations.ConditionsReadTheStateAndPinsFollow := by
  refine fun s => ⟨⟨List.contains_iff_mem, ?atRisk, State.level_blindZone_iff, State.level_doorDwell_iff, Iff.rfl,
    State.level_probeFault_iff, ?handover, decide_eq_true_iff⟩, fun l => ⟨fun run => ⟨fun follows => ?follow,
    fun latches => ?latch, fun pulses => ?pulse⟩, fun off => ?off⟩, ?attn, ?pexc⟩
  case atRisk =>
    refine State.any_slots_iff.trans ?_
    simp only [Record.atRiskAboard_iff]
  case handover =>
    refine State.any_slots_iff.trans ?_
    simp only [Record.isHandover_iff, exists_and_left]
  case follow => rw [State.alertHigh_of_followMode follows, State.running_of run, Bool.true_and]
  case latch => rw [State.alertHigh_of_latchMode latches, State.running_of run, Bool.true_and]
  case pulse =>
    rw [State.alertHigh_of_pulseMode pulses, State.running_of run, Bool.true_and, Option.isSome_iff_exists]
  case off => rw [State.alertHigh, State.running_eq_false off, Bool.false_and]
  case attn => simp [State.attnLow, State.running]
  case pexc => simp [State.pexcOn, State.running]

end Sys2Proof.Machine
